-- ==== Sys2Proof/Word.lean ====
section
/-!
DEFINITION. The bit vectors of the block: `00_scope.md` R8 (bit 0 is the least significant bit) and
`30_encoding.md` R81 (the fields of the command word).
-/
namespace Sys2Proof

/-- A 32-bit register or target-CPU instruction word (`XLEN = 32`, R6). -/
abbrev Word := BitVec 32

/-- One byte of memory, and a firmware call number (`CALLNUM_BITS = 8`, R6). -/
abbrev Byte := BitVec 8

/-- The 48-bit command word `CW` (R80, R81). -/
abbrev CmdWord := BitVec 48

/-- The field `idx`: a general register or CP0 cell number 0..31 (R81, R83). -/
abbrev RegNum := BitVec 5

/-- The branch-delay indicator `bdt` (R81, R87). -/
abbrev Bdt := BitVec 2

/-- The index of a geometry-coprocessor handler, bits 5:0 of the word (R90). -/
abbrev GteIndex := BitVec 6

end Sys2Proof
end

