-- ==== Sys2Proof/Syntax.lean ====
section
/-!
DEFINITION. The instructions: one constructor per row of `spec/opcode_table.json`. Twenty-four are
commands of the command interface (`30_encoding.md` R82); `gteSpecial` is the target-CPU instruction
word that the exception dispatcher recognises (R90), "not a command".
-/
namespace Sys2Proof

/-- The commands of R82, in the order of its table, and the pattern of R90. -/
inductive Instr where
  | rdGpr (n : RegNum)
  | wrGpr (n : RegNum) (v : Word)
  | rdPc
  | wrPc (v : Word)
  | rdHi
  | wrHi (v : Word)
  | rdLo
  | wrLo (v : Word)
  | rdCp0 (n : RegNum)
  | wrCp0 (n : RegNum) (v : Word)
  | rdCycle
  | addCycle (n : Word)
  | rdNextEvent
  | rdNextBase
  | wrNextEvent (v : Word)
  | wrNextBase (v : Word)
  /-- `code` is ORed into Cause as it stands (R83); `bdt` has four values (R87). -/
  | raise (code : Word) (bdt : Bdt)
  | branchTest
  | resetState
  | hostInit
  | hostReset
  | hostShutdown
  | jumpTest
  | bootRun
  /-- The whole fetched word: bits 24:6 are not decoded but are passed to the handler (R90). -/
  | gteSpecial (w : Word)
  deriving DecidableEq, Repr

end Sys2Proof
end

