-- ==== Sys2Proof/Config.lean ====
section
/-!
DEFINITION. The implementation parameters (`00_scope.md` R6), the configuration inputs (R7), the
collaborators' answers (R5, R80), and the free values: constants without a body that stand for what
the spec leaves open.
-/
namespace Sys2Proof

/-! ### Parameters of R6. The numbers the source does not give are the spec's defaults (log 1). -/
namespace Config

/-- PRESUMED (log 1): `CP0_SR`. -/
def cp0Sr : RegNum := 12#5
/-- PRESUMED (log 1): `CP0_CAUSE`. -/
def cp0Cause : RegNum := 13#5
/-- PRESUMED (log 1): `CP0_EPC`. -/
def cp0Epc : RegNum := 14#5
/-- PRESUMED (log 1): `CP0_PRID`. -/
def cp0Prid : RegNum := 15#5

/-- `SR_BEV_BIT`: "SR's boot-exception-vector bit (bit 22)". -/
def srBevBit : Nat := 22
/-- PRESUMED (log 1): `SR_CU0_BIT`. -/
def srCu0Bit : Nat := 28
/-- PRESUMED (log 1): `SR_CU2_BIT`. -/
def srCu2Bit : Nat := 30
/-- PRESUMED (log 1): `SR_TS_BIT`. -/
def srTsBit : Nat := 21

/-- PRESUMED (log 1): `PRID_RESET`. -/
def pridReset : Word := 0x00000002#32
/-- PRESUMED (log 1): `BOOT_VECTOR`. -/
def bootVector : Word := 0xBFC00000#32
/-- PRESUMED (log 1): `EXC_VEC_ROM`. -/
def excVecRom : Word := 0xBFC00180#32
/-- PRESUMED (log 1): `EXC_VEC_RAM`. -/
def excVecRam : Word := 0x80000080#32

/-- `CAUSE_KEEP_MASK`: bits 8 to 10. -/
def causeKeepMask : Word := 0x00000700#32
/-- `BDT_SHIFT`: the indicator goes to Cause bits 31:30. -/
def bdtShift : Nat := 30

/-- PRESUMED (log 1): `GTE_TOP7`. -/
def gteTop7 : BitVec 7 := 0b0100101#7
/-- PRESUMED (log 1): `CALLNUM_REG`. -/
def callnumReg : RegNum := 9#5
/-- `GATE_MASK`: the low 21 bits. -/
def gateMask : Word := 0x001FFFFF#32
/-- PRESUMED (log 1): `GATE_A`. -/
def gateA : Word := 0xA0#32
/-- PRESUMED (log 1): `GATE_B`. -/
def gateB : Word := 0xB0#32
/-- PRESUMED (log 1): `GATE_C`. -/
def gateC : Word := 0xC0#32
/-- PRESUMED (log 1): `KERNEL_PREFIX9`. -/
def kernelPrefix9 : BitVec 9 := 0b100000000#9
/-- PRESUMED (log 1): `KERNEL_ENTRY`. -/
def kernelEntry : Word := 0x80030000#32
/-- `BOOT_CAP`: "Hard iteration cap (5,000,000 blocks)". -/
def bootCap : Nat := 5000000
/-- PRESUMED (log 1): `IRQ_CODE`. -/
def irqCode : Word := 0x00000400#32

end Config

/-- The order in which the four bytes at an address form a word (`20_memory.md` R62). -/
inductive Endian where
  | little
  | big
  deriving DecidableEq, Repr

/-- PRESUMED (log 1): `MEM_ENDIAN`, default little-endian. -/
def Config.memEndian : Endian := .little

/-! ### Types of the collaborators -/

/-- The execution backends (`43_host_control.md` R192). -/
inductive BackendKind where
  | interpreter
  | recompilerA
  | recompilerB
  deriving DecidableEq, Repr

/-- The geometry-coprocessor register block (`10_state.md` R33), opaque to the block: its contents as
one number, because the source gives neither its size nor its layout (`91_not_in_source.md` N6). Zero
is "every bit of the block" zero. DESIGN CHOICE (log 10). -/
structure GteRegs where
  bits : Nat
  deriving DecidableEq, Repr, Inhabited

/-- The interrupt controller's state as the interrupt evaluation reads it (`42_event_scheduler.md`
R173): `pending` is the bit the default arbiter reads (R174), `rest` whatever else an external
evaluation may read. -/
structure IrqIn where
  pending : Bool
  rest    : Nat
  deriving DecidableEq, Repr, Inhabited

/-- The configuration inputs (`00_scope.md` R7). -/
structure Cfg where
  hle         : Bool
  fwIntercept : Bool
  fwLog       : Bool
  backend     : BackendKind
  /-- Opaque; the one input the host writes (`90_conflicts.md` C6). -/
  timingFix   : Nat
  introPolicy : Bool
  deriving DecidableEq, Repr

/-- The three firmware call gates (`30_encoding.md` R91). -/
inductive Gate where
  | a
  | b
  | c
  deriving DecidableEq, Repr

/-- Which interrupt evaluation the machine has: the default of `42_event_scheduler.md` R174, or an
external one (`IntEval` left open, R173). -/
inductive Arbiter where
  | default
  | external
  deriving DecidableEq, Repr

/-- "Two high-frequency call numbers" (`43_host_control.md` R196): a set of two, the lower number first, so
that equal sets are equal data. -/
structure QuietPair where
  low      : Byte
  high     : Byte
  distinct : low < high
  deriving DecidableEq, Repr

/-- The quiet call numbers of the three tables: `Quiet[t]` is "that two-element set per table" (R196). -/
structure QuietCalls where
  a : QuietPair
  b : QuietPair
  c : QuietPair
  deriving DecidableEq, Repr

/-- The parameter tables of the collaborators (`00_scope.md` R5), as plain data: which entries are
non-empty. What a non-empty entry does is a free value. -/
structure Tables where
  /-- The non-empty entries of the 64-entry handler table (`41_exception_dispatch.md` R143). -/
  gteEntries : List GteIndex
  /-- The non-empty entries of the three 256-entry tables (`43_host_control.md` R196). -/
  fwEntries  : List (Gate × Byte)
  /-- The quiet call numbers `Quiet[t]` (R196). -/
  quiet      : QuietCalls
  /-- The backends this host offers beside the Interpreter (R192). -/
  offers     : List BackendKind
  arbiter    : Arbiter
  deriving DecidableEq, Repr

/-- One act of a collaborator: a command it issues to the block, or a change of the block's
surroundings. Which acts a collaborator may perform is said where it is called. -/
inductive Act where
  | command (i : Instr)
  /-- The fetch port shows `b` at `addr` from now on. -/
  | setByte (addr : Word) (b : Byte)
  | irq (q : IrqIn)
  /-- "firmware execution is known to mutate it" (`70_reset_and_hazards.md`). -/
  | timingFix (v : Nat)
  deriving DecidableEq, Repr, Inhabited

/-- What a collaborator answers to one call (`30_encoding.md` R80): a status, a Boolean and the acts
it performs. A call reads the parts it has a use for. -/
structure Answer where
  status : Int
  flag   : Bool
  acts   : List Act
  deriving DecidableEq, Repr, Inhabited

/-! ### Free values: no body, so that nothing can be proved of their value. -/
namespace Config

/-- What a collaborator answers when the command came without an answer for the call: a draw under no
law (`42_event_scheduler.md` R172; `43_host_control.md` R190, R191, R196; `70_reset_and_hazards.md`
R262). Log 9. -/
opaque answer : Nat → Answer

/-- The word `Fetch` returns where the listed bytes do not decide it: a function of the memory subsystem's
contents and the address (`20_memory.md` R61, R63). Log 5. -/
opaque fetchOracle : Nat → List Host.Cell → Word → Word

/-- What a non-empty geometry-coprocessor handler computes (`41_exception_dispatch.md` R143). -/
opaque gteHandler : GteIndex → GteRegs → Word → GteRegs

/-- An external `IntEval` (`42_event_scheduler.md` R173). -/
opaque intEval : Word → Word → IrqIn → Option (Word × Bdt)

/-- The words that a freed block's registers hold (`43_host_control.md` R193: "the block's state is
unspecified"). Log 11. -/
opaque freedWord : Nat → Nat → Word

/-- What a freed block's geometry-coprocessor registers hold (R193). Log 11. -/
opaque freedGte : Nat → GteRegs

end Config

end Sys2Proof
end

