-- ==== Sys2Proof/Machine/Flags.lean ====
section
/-!
DEFINITION. The fields of SR and Cause. The block has no flags register and no condition codes: "every
bit of status the block keeps is a field of SR or Cause" (`10_state.md` R36; fields R28, R29).
-/
namespace Sys2Proof.Machine

/-! ### SR (R28) -/

/-- IEc, SR bit 0: current interrupt enable. -/
def srIEc (sr : Word) : Bool := sr.getLsbD 0
/-- KUc, SR bit 1: current mode, 0 = kernel. -/
def srKUc (sr : Word) : Bool := sr.getLsbD 1
/-- IM2, SR bit 10: the hardware-interrupt mask. -/
def srIM2 (sr : Word) : Bool := sr.getLsbD 10
/-- BEV, SR bit 22: 1 selects the ROM exception vector. -/
def srBEV (sr : Word) : Bool := sr.getLsbD Config.srBevBit

/-- The word with bit `n` set and no other. -/
def bitMask (n : Nat) : Word := 1#32 <<< n

/-- `SR_RESET`: bits CU0, BEV and TS (`70_reset_and_hazards.md` R261). -/
def srReset : Word :=
  bitMask Config.srCu0Bit ||| bitMask Config.srBevBit ||| bitMask Config.srTsBit

/-- What RESET_STATE leaves in SR (`70_reset_and_hazards.md` R260). -/
def srAfterReset (hle : Bool) : Word :=
  if hle then (srReset ||| bitMask Config.srCu2Bit) &&& ~~~(bitMask Config.srBevBit) else srReset

/-- The two SR bits that `SetupHleBootState` leaves alone (`92_eei_decisions.md` D38). -/
def srBootMask : Word := bitMask Config.srCu2Bit ||| bitMask Config.srBevBit

/-- Step 6 of the dispatcher: the status-register stack push (`41_exception_dispatch.md` R147). -/
def srPush (sr : Word) : Word := (sr &&& ~~~0x3F#32) ||| ((sr &&& 0xF#32) <<< 2)

/-- Step 5 of the dispatcher: the vector SR bit 22 selects (`41_exception_dispatch.md` R146). -/
def exceptionVector (sr : Word) : Word := if srBEV sr then Config.excVecRom else Config.excVecRam

/-! ### Cause (R29) -/

/-- Step 3 of the dispatcher: the new cause register (`41_exception_dispatch.md` R144). -/
def causeOnEntry (bdt : Bdt) (old code : Word) : Word :=
  ((bdt.setWidth 32) <<< Config.bdtShift) ||| (old &&& Config.causeKeepMask) ||| code

/-! ### EPC (R30) -/

/-- Step 4 of the dispatcher: the address saved (`41_exception_dispatch.md` R145). -/
def epcOnEntry (bdt : Bdt) (pc : Word) : Word := if bdt = 0#2 then pc else pc - 4#32

end Sys2Proof.Machine
end

