-- ==== Sys2Proof/WellFormed.lean ====
section
/-!
DEFINITION. Which terms of `Instr` are instructions. The fields of a command have the widths of
`30_encoding.md` R81, so every command term is well formed; a `gteSpecial` term is one only if its word
carries the pattern of R90.
-/
namespace Sys2Proof

/-- The one check: `w[31:25] == GTE_TOP7` (R90). -/
def Instr.wellFormed : Instr → Bool
  | .gteSpecial w => w.extractLsb' 25 7 == Config.gteTop7
  | .rdGpr _ | .wrGpr _ _ | .rdPc | .wrPc _ | .rdHi | .wrHi _ | .rdLo | .wrLo _ | .rdCp0 _
  | .wrCp0 _ _ | .rdCycle | .addCycle _ | .rdNextEvent | .rdNextBase | .wrNextEvent _
  | .wrNextBase _ | .raise _ _ | .branchTest | .resetState | .hostInit | .hostReset
  | .hostShutdown | .jumpTest | .bootRun => true

end Sys2Proof
end

