-- ==== Sys2Proof/Decode.lean ====
section
/-!
DEFINITION. The decoder of the command word and of the geometry-coprocessor pattern, total and
rejecting by name, and the encoder (`30_encoding.md` R80 to R92; the opcode map is R82).
-/
namespace Sys2Proof

/-! ### The fields of the command word (R81) -/

/-- `op`, bits 47:43. -/
def cmdOp (cw : CmdWord) : BitVec 5 := cw.extractLsb' 43 5
/-- `idx`, bits 42:38. -/
def cmdIdx (cw : CmdWord) : RegNum := cw.extractLsb' 38 5
/-- `bdt`, bits 37:36. -/
def cmdBdt (cw : CmdWord) : Bdt := cw.extractLsb' 36 2
/-- `rsv`, bits 35:32. -/
def cmdRsv (cw : CmdWord) : BitVec 4 := cw.extractLsb' 32 4
/-- `data`, bits 31:0, taken verbatim (R83). -/
def cmdData (cw : CmdWord) : Word := cw.extractLsb' 0 32

/-- The command word with these fields (R81): `op << 43 | idx << 38 | bdt << 36 | data`. -/
def cmdWord (op : BitVec 5) (idx : RegNum) (bdt : Bdt) (data : Word) : CmdWord :=
  op ++ idx ++ bdt ++ 0#4 ++ data

/-! ### The patterns the dispatcher decodes -/

/-- The geometry-coprocessor pattern: `w[31:25] == GTE_TOP7` (R90). -/
def isGteWord (w : Word) : Bool := w.extractLsb' 25 7 == Config.gteTop7

/-- Its handler index `w[5:0]` (R90). -/
def gteIndex (w : Word) : GteIndex := w.extractLsb' 0 6

/-! ### Decoding -/

/-- Why a word is not an instruction. -/
inductive DecodeError where
  /-- The opcode is one of 0x00, 0x14 to 0x17, 0x1D to 0x1F (R85). -/
  | reservedOpcode
  /-- A field the command does not use, or `rsv`, is not 0 (R84). -/
  | unusedFieldNonZero
  /-- A target-CPU word without the pattern of R90: the block decodes no other. -/
  | notGtePattern
  deriving DecidableEq, Repr

/-- The command `i`, if the fields it does not use are 0 (R84). -/
def ifUnusedZero (unusedZero : Bool) (i : Instr) : Except DecodeError Instr :=
  if unusedZero then .ok i else .error .unusedFieldNonZero

/-- No field used: `idx`, `bdt`, `rsv` and `data` must be 0. -/
def usesNone (cw : CmdWord) : Bool :=
  cmdIdx cw == 0#5 && cmdBdt cw == 0#2 && cmdRsv cw == 0#4 && cmdData cw == 0#32
/-- `idx` used. -/
def usesIdx (cw : CmdWord) : Bool :=
  cmdBdt cw == 0#2 && cmdRsv cw == 0#4 && cmdData cw == 0#32
/-- `data` used. -/
def usesData (cw : CmdWord) : Bool :=
  cmdIdx cw == 0#5 && cmdBdt cw == 0#2 && cmdRsv cw == 0#4
/-- `idx` and `data` used. -/
def usesIdxData (cw : CmdWord) : Bool :=
  cmdBdt cw == 0#2 && cmdRsv cw == 0#4
/-- `bdt` and `data` used. -/
def usesBdtData (cw : CmdWord) : Bool :=
  cmdIdx cw == 0#5 && cmdRsv cw == 0#4

/-- The command a command word names (R82, R84, R85, R88). -/
def decodeCommand (cw : CmdWord) : Except DecodeError Instr :=
  match (cmdOp cw).toNat with
  | 0x01 => ifUnusedZero (usesIdx cw) (.rdGpr (cmdIdx cw))
  | 0x02 => ifUnusedZero (usesIdxData cw) (.wrGpr (cmdIdx cw) (cmdData cw))
  | 0x03 => ifUnusedZero (usesNone cw) .rdPc
  | 0x04 => ifUnusedZero (usesData cw) (.wrPc (cmdData cw))
  | 0x05 => ifUnusedZero (usesNone cw) .rdHi
  | 0x06 => ifUnusedZero (usesData cw) (.wrHi (cmdData cw))
  | 0x07 => ifUnusedZero (usesNone cw) .rdLo
  | 0x08 => ifUnusedZero (usesData cw) (.wrLo (cmdData cw))
  | 0x09 => ifUnusedZero (usesIdx cw) (.rdCp0 (cmdIdx cw))
  | 0x0A => ifUnusedZero (usesIdxData cw) (.wrCp0 (cmdIdx cw) (cmdData cw))
  | 0x0B => ifUnusedZero (usesNone cw) .rdCycle
  | 0x0C => ifUnusedZero (usesData cw) (.addCycle (cmdData cw))
  | 0x0D => ifUnusedZero (usesNone cw) .rdNextEvent
  | 0x0E => ifUnusedZero (usesNone cw) .rdNextBase
  | 0x0F => ifUnusedZero (usesData cw) (.wrNextEvent (cmdData cw))
  | 0x10 => ifUnusedZero (usesData cw) (.wrNextBase (cmdData cw))
  | 0x11 => ifUnusedZero (usesBdtData cw) (.raise (cmdData cw) (cmdBdt cw))
  | 0x12 => ifUnusedZero (usesNone cw) .branchTest
  | 0x13 => ifUnusedZero (usesNone cw) .resetState
  | 0x18 => ifUnusedZero (usesNone cw) .hostInit
  | 0x19 => ifUnusedZero (usesNone cw) .hostReset
  | 0x1A => ifUnusedZero (usesNone cw) .hostShutdown
  | 0x1B => ifUnusedZero (usesNone cw) .jumpTest
  | 0x1C => ifUnusedZero (usesNone cw) .bootRun
  | _ => .error .reservedOpcode

/-- The one target-CPU word the block decodes (R90). -/
def decodeInsn (w : Word) : Except DecodeError Instr :=
  if isGteWord w then .ok (.gteSpecial w) else .error .notGtePattern

/-- An encoded instruction: a command word, or a target-CPU instruction word. -/
inductive Encoded where
  | command (cw : CmdWord)
  | insn (w : Word)
  deriving DecidableEq, Repr

/-- The decoder on both kinds of word. -/
def decode : Encoded → Except DecodeError Instr
  | .command cw => decodeCommand cw
  | .insn w => decodeInsn w

/-! ### Encoding -/

/-- The word of an instruction (R81, R82, R90). -/
def encode : Instr → Encoded
  | .rdGpr n => .command (cmdWord 0x01#5 n 0#2 0#32)
  | .wrGpr n v => .command (cmdWord 0x02#5 n 0#2 v)
  | .rdPc => .command (cmdWord 0x03#5 0#5 0#2 0#32)
  | .wrPc v => .command (cmdWord 0x04#5 0#5 0#2 v)
  | .rdHi => .command (cmdWord 0x05#5 0#5 0#2 0#32)
  | .wrHi v => .command (cmdWord 0x06#5 0#5 0#2 v)
  | .rdLo => .command (cmdWord 0x07#5 0#5 0#2 0#32)
  | .wrLo v => .command (cmdWord 0x08#5 0#5 0#2 v)
  | .rdCp0 n => .command (cmdWord 0x09#5 n 0#2 0#32)
  | .wrCp0 n v => .command (cmdWord 0x0A#5 n 0#2 v)
  | .rdCycle => .command (cmdWord 0x0B#5 0#5 0#2 0#32)
  | .addCycle n => .command (cmdWord 0x0C#5 0#5 0#2 n)
  | .rdNextEvent => .command (cmdWord 0x0D#5 0#5 0#2 0#32)
  | .rdNextBase => .command (cmdWord 0x0E#5 0#5 0#2 0#32)
  | .wrNextEvent v => .command (cmdWord 0x0F#5 0#5 0#2 v)
  | .wrNextBase v => .command (cmdWord 0x10#5 0#5 0#2 v)
  | .raise code bdt => .command (cmdWord 0x11#5 0#5 bdt code)
  | .branchTest => .command (cmdWord 0x12#5 0#5 0#2 0#32)
  | .resetState => .command (cmdWord 0x13#5 0#5 0#2 0#32)
  | .hostInit => .command (cmdWord 0x18#5 0#5 0#2 0#32)
  | .hostReset => .command (cmdWord 0x19#5 0#5 0#2 0#32)
  | .hostShutdown => .command (cmdWord 0x1A#5 0#5 0#2 0#32)
  | .jumpTest => .command (cmdWord 0x1B#5 0#5 0#2 0#32)
  | .bootRun => .command (cmdWord 0x1C#5 0#5 0#2 0#32)
  | .gteSpecial w => .insn w

/-! ### The opcode table's rows, as masks and patterns -/

/-- One row of kind "block" or "host" of the opcode table (R84): `CW & mask == match`. -/
structure CommandRow where
  mnemonic : String
  mask     : CmdWord
  pattern  : CmdWord
  deriving DecidableEq, Repr

/-- `CW & mask == match` (R84). -/
def CommandRow.accepts (r : CommandRow) (cw : CmdWord) : Bool := cw &&& r.mask == r.pattern

/-- The register-access rows. -/
def registerRows : List CommandRow :=
  [⟨"RD_GPR", 0xF83FFFFFFFFF#48, 0x080000000000#48⟩,
   ⟨"WR_GPR", 0xF83F00000000#48, 0x100000000000#48⟩,
   ⟨"RD_PC", 0xFFFFFFFFFFFF#48, 0x180000000000#48⟩,
   ⟨"WR_PC", 0xFFFF00000000#48, 0x200000000000#48⟩,
   ⟨"RD_HI", 0xFFFFFFFFFFFF#48, 0x280000000000#48⟩,
   ⟨"WR_HI", 0xFFFF00000000#48, 0x300000000000#48⟩,
   ⟨"RD_LO", 0xFFFFFFFFFFFF#48, 0x380000000000#48⟩,
   ⟨"WR_LO", 0xFFFF00000000#48, 0x400000000000#48⟩,
   ⟨"RD_CP0", 0xF83FFFFFFFFF#48, 0x480000000000#48⟩,
   ⟨"WR_CP0", 0xF83F00000000#48, 0x500000000000#48⟩,
   ⟨"RD_CYCLE", 0xFFFFFFFFFFFF#48, 0x580000000000#48⟩,
   ⟨"ADD_CYCLE", 0xFFFF00000000#48, 0x600000000000#48⟩,
   ⟨"RD_NEXT_EVENT", 0xFFFFFFFFFFFF#48, 0x680000000000#48⟩,
   ⟨"RD_NEXT_BASE", 0xFFFFFFFFFFFF#48, 0x700000000000#48⟩,
   ⟨"WR_NEXT_EVENT", 0xFFFF00000000#48, 0x780000000000#48⟩,
   ⟨"WR_NEXT_BASE", 0xFFFF00000000#48, 0x800000000000#48⟩]

/-- The rows of the dispatcher, the scheduler, reset and the host. -/
def controlRows : List CommandRow :=
  [⟨"RAISE", 0xFFCF00000000#48, 0x880000000000#48⟩,
   ⟨"BRANCH_TEST", 0xFFFFFFFFFFFF#48, 0x900000000000#48⟩,
   ⟨"RESET_STATE", 0xFFFFFFFFFFFF#48, 0x980000000000#48⟩,
   ⟨"HOST_INIT", 0xFFFFFFFFFFFF#48, 0xC00000000000#48⟩,
   ⟨"HOST_RESET", 0xFFFFFFFFFFFF#48, 0xC80000000000#48⟩,
   ⟨"HOST_SHUTDOWN", 0xFFFFFFFFFFFF#48, 0xD00000000000#48⟩,
   ⟨"JUMP_TEST", 0xFFFFFFFFFFFF#48, 0xD80000000000#48⟩,
   ⟨"BOOT_RUN", 0xFFFFFFFFFFFF#48, 0xE00000000000#48⟩]

/-- Every command row of the opcode table (R82, R84). -/
def commandRows : List CommandRow := registerRows ++ controlRows

/-- The mnemonic of an instruction's row. -/
def Instr.mnemonic : Instr → String
  | .rdGpr _ => "RD_GPR" | .wrGpr _ _ => "WR_GPR" | .rdPc => "RD_PC" | .wrPc _ => "WR_PC"
  | .rdHi => "RD_HI" | .wrHi _ => "WR_HI" | .rdLo => "RD_LO" | .wrLo _ => "WR_LO"
  | .rdCp0 _ => "RD_CP0" | .wrCp0 _ _ => "WR_CP0" | .rdCycle => "RD_CYCLE"
  | .addCycle _ => "ADD_CYCLE" | .rdNextEvent => "RD_NEXT_EVENT" | .rdNextBase => "RD_NEXT_BASE"
  | .wrNextEvent _ => "WR_NEXT_EVENT" | .wrNextBase _ => "WR_NEXT_BASE" | .raise _ _ => "RAISE"
  | .branchTest => "BRANCH_TEST" | .resetState => "RESET_STATE" | .hostInit => "HOST_INIT"
  | .hostReset => "HOST_RESET" | .hostShutdown => "HOST_SHUTDOWN" | .jumpTest => "JUMP_TEST"
  | .bootRun => "BOOT_RUN" | .gteSpecial _ => "GTE_SPECIAL"

/-! ### The words of the opcode table -/

/-- The instruction the decoder reads from an instruction of `nbits` bits whose bits are `w`: the rows
of 48 bits are command words, the row of 32 bits is the target-CPU word. Both are one word, so the
table's numbering is the word's own (R8). -/
def decodeTableWord (nbits w : Nat) : Option Instr :=
  if w < 2 ^ nbits then
    match nbits with
    | 48 => (decode (.command (BitVec.ofNat 48 w))).toOption
    | 32 => (decode (.insn (BitVec.ofNat 32 w))).toOption
    | _ => none
  else none

end Sys2Proof
end

