-- ==== Sys2Proof/Machine/State.lean ====
section
/-!
DEFINITION. The state of the block (`10_state.md` R20 to R33), of its host (R34), its inputs
(`00_scope.md` R5, R7) and the outputs of the command interface (`30_encoding.md` R80), as plain data;
the reasons a step can stop; and the state after reset.
-/
namespace Sys2Proof.Machine

/-- What the fetch port shows (`20_memory.md` R60): address and byte, addresses strictly rising. An
address that is not listed shows no known byte: a fetch takes it from the fetch oracle (R61, R63). Log 5. -/
abbrev Memory := List Host.Cell

/-- The output `status` of the command interface (R80). -/
inductive CmdStatus where
  | ok
  | refused
  deriving DecidableEq, Repr

/-- The reason given to `ExecuteBlock` (`43_host_control.md` R191). The block's own commands give
`boot` alone (R197); a normal block is the backend's commands as they arrive. -/
inductive BlockReason where
  | normal
  | boot
  deriving DecidableEq, Repr

/-- One entry of the ordered list of collaborator calls and diagnostic events (R80). -/
inductive Event where
  /-- `Fetch(addr)` (`20_memory.md` R60). -/
  | fetch (addr : Word)
  /-- Handler `k` applied to `w` (`41_exception_dispatch.md` R142). -/
  | gteHandler (k : GteIndex) (w : Word)
  /-- `42_event_scheduler.md` R172. -/
  | timerUpdate
  /-- `42_event_scheduler.md` R173. -/
  | intEval
  | memInit
  | memReset
  | memShutdown
  | backendInit
  | backendApplyConfig
  | backendReset
  | backendShutdown
  | executeBlock (reason : BlockReason)
  | hwReset
  | firmwareInit
  | firmwareShutdown
  | tryIntroBypass
  | setupHleBootState
  /-- `FwHandler[t][n]` called (`43_host_control.md` R196). -/
  | fwHandler (t : Gate) (n : Byte)
  /-- `Log(t, n)` (`43_host_control.md` R194). -/
  | log (t : Gate) (n : Byte)
  /-- `NonStandardFirmware(bootCount, pc)` (`43_host_control.md` R199). -/
  | nonStandardFirmware (count : Nat) (pc : Word)
  deriving DecidableEq, Repr

/-- The outputs of the last command (R80). -/
structure Output where
  /-- "valid after a read command": a value after a read command, none after another. -/
  rdata      : Option Word
  status     : CmdStatus
  /-- The status HOST_INIT returns (`43_host_control.md` R190); none after another command. -/
  hostStatus : Option Int
  events     : List Event
  deriving DecidableEq, Repr

/-- The Boot Sequencer's state (`43_host_control.md` R197). -/
inductive BootState where
  | running
  | reachedKernel
  | exhausted
  deriving DecidableEq, Repr

/-- Which commands the block accepts (`43_host_control.md` R193, `70_reset_and_hazards.md` R264). -/
inductive Phase where
  /-- Before the first RESET_STATE. -/
  | unreset
  /-- RESET_STATE has been performed: every command is accepted. -/
  | live
  /-- After HOST_SHUTDOWN: HOST_INIT is awaited. -/
  | shutDown
  /-- HOST_INIT has succeeded after HOST_SHUTDOWN: HOST_RESET is awaited. -/
  | reinitialised
  deriving DecidableEq, Repr

/-- The host lifecycle controller's state (`10_state.md` R34). -/
structure HostState where
  /-- "chosen at Init and kept until Shutdown": none outside that time. -/
  backend         : Option BackendKind
  backendInitOnce : Bool
  savedTimingFix  : Nat
  bootState       : BootState
  bootCount       : Nat
  phase           : Phase
  deriving DecidableEq, Repr

/-- A change of the surroundings between two commands (`00_scope.md` R5, R7). -/
inductive Change where
  /-- The fetch port shows `b` at `addr` from now on (`20_memory.md` R70). -/
  | setByte (addr : Word) (b : Byte)
  | irq (q : IrqIn)
  | cfg (c : Cfg)
  /-- A host input (`43_host_control.md` R190, `91_not_in_source.md` N10). -/
  | backendInitOnce (b : Bool)
  deriving DecidableEq, Repr

/-- What is presented to the machine: a command word with the answers of the collaborators (R80), or a
change of the surroundings. -/
inductive Input where
  | command (cw : CmdWord) (answers : List Answer)
  | change (c : Change)
  deriving DecidableEq, Repr

structure State where
  /-- `x[0]` .. `x[31]` (R20). -/
  x         : Vector Word 32
  /-- R23. -/
  pc        : Word
  /-- R25. -/
  hi        : Word
  /-- R25. -/
  lo        : Word
  /-- R26. -/
  cycle     : Word
  /-- `cp0[0]` .. `cp0[31]`, SR, Cause, EPC and PRid among them (R27). -/
  cp0       : Vector Word 32
  /-- R33. -/
  gte       : GteRegs
  /-- R32. -/
  nextEvent : Word
  /-- R32. -/
  nextBase  : Word
  /-- R34. -/
  host      : HostState
  /-- `00_scope.md` R7. -/
  cfg       : Cfg
  /-- `42_event_scheduler.md` R173. -/
  irqIn     : IrqIn
  /-- `20_memory.md` R60. -/
  mem       : Memory
  /-- The model's own (log 5): how often the memory subsystem has replaced its contents. -/
  memEpoch  : Nat
  /-- The parameter tables (`00_scope.md` R5). -/
  tables    : Tables
  /-- The model's own (log 9): answers presented with the command and not yet used. -/
  answers   : List Answer
  /-- The model's own (log 9): the counter the free values are applied to. -/
  draws     : Nat
  /-- Not yet taken, oldest first (R80). -/
  inputs    : List Input
  /-- R80. -/
  out       : Output
  deriving DecidableEq, Repr

/-- No step faults: "Nothing in this core throws or aborts except the two fatal-initialization cases"
(`43_host_control.md` R200), and those are a status HOST_INIT returns; RAISE "never fails"
(`41_exception_dispatch.md` R148). Nobody raises a fault. -/
inductive Fault where
  deriving DecidableEq, Repr

/-- Why a command is refused (`30_encoding.md` R86: the model gives it no meaning). -/
inductive Refusal where
  /-- Raised by an arm of `exec` whose instruction has no meaning yet; safe. -/
  | notModelled (mnemonic : String)
  /-- Raised by `step` for a word whose opcode names no command (R85); safe, and the spec's own. -/
  | reservedOpcode
  /-- Raised by `step` for a word with a non-zero unused field (R84); safe, and the spec's own. -/
  | unusedFieldNonZero
  /-- Raised by `exec` for a command before the first RESET_STATE (`70_reset_and_hazards.md` R264);
  safe, and the spec's own. -/
  | beforeFirstReset
  /-- Raised by `exec` for a command after HOST_SHUTDOWN (`43_host_control.md` R193); safe, and the
  spec's own. -/
  | afterShutdown
  deriving DecidableEq, Repr

/-- The outputs of a command that returns no value and calls nothing. -/
def Output.ok : Output := { rdata := none, status := .ok, hostStatus := none, events := [] }

/-- The CP0 cells after RESET_STATE with HLE off: SR_RESET in cell 12, PRID_RESET in cell 15, the
others 0 (`70_reset_and_hazards.md` R261). -/
def cp0AtReset : Vector Word 32 :=
  ((Vector.replicate 32 0#32).set 12 0x10600000#32).set 15 Config.pridReset

/-- DESIGN CHOICE (log 6): the quiet call numbers, whose members the source does not give
(`91_not_in_source.md` N11). -/
def quietAtReset : QuietCalls :=
  { a := { low := 0#8, high := 1#8, distinct := by decide }
    b := { low := 0#8, high := 1#8, distinct := by decide }
    c := { low := 0#8, high := 1#8, distinct := by decide } }

/-- The machine right after RESET_STATE with HLE off (`70_reset_and_hazards.md` R260, R261). What R260
does not write (`nextEvent`, `nextBase`, the host's state, the inputs) holds the values of logs 2 to 9. -/
def State.reset : State where
  x := Vector.replicate 32 0#32
  pc := Config.bootVector
  hi := 0#32
  lo := 0#32
  cycle := 0#32
  cp0 := cp0AtReset
  gte := ⟨0⟩
  nextEvent := 0#32
  nextBase := 0#32
  host :=
    { backend := none, backendInitOnce := false, savedTimingFix := 0, bootState := .running,
      bootCount := 0, phase := .live }
  cfg :=
    { hle := false, fwIntercept := false, fwLog := false, backend := .interpreter, timingFix := 0,
      introPolicy := false }
  irqIn := { pending := false, rest := 0 }
  mem := []
  memEpoch := 0
  tables := { gteEntries := [], fwEntries := [], quiet := quietAtReset, offers := [], arbiter := .default }
  answers := []
  draws := 0
  inputs := []
  out := Output.ok

end Sys2Proof.Machine
end

