-- ==== Sys2Proof/Machine/Operands.lean ====
section
/-!
DEFINITION. The operand forms: general registers with `x[0]` hardwired (`10_state.md` R21), CP0 cells
(R27), and the fields of `pc` and of `x[CALLNUM_REG]` that the host commands read (`30_encoding.md` R91,
R92).
-/
namespace Sys2Proof.Machine

/-- Reads `x[n]`; `x[0]` reads as zero (R21). -/
def State.readGpr (s : State) (n : RegNum) : Word :=
  if n = 0#5 then 0#32 else s.x[n.toNat]'n.isLt

/-- Writes `x[n]`; a write to `x[0]` is discarded (R21). -/
def State.writeGpr (s : State) (n : RegNum) (v : Word) : State :=
  if n = 0#5 then s else { s with x := s.x.set n.toNat v n.isLt }

/-- Reads the CP0 cell `n` (R27): every cell reads what was last written. -/
def State.readCp0 (s : State) (n : RegNum) : Word := s.cp0[n.toNat]'n.isLt

/-- Writes the CP0 cell `n`: all 32 bits, no mask (R28, R29, `92_eei_decisions.md` D6). -/
def State.writeCp0 (s : State) (n : RegNum) (v : Word) : State :=
  { s with cp0 := s.cp0.set n.toNat v n.isLt }

/-- SR. -/
def State.sr (s : State) : Word := s.readCp0 Config.cp0Sr
/-- Cause. -/
def State.cause (s : State) : Word := s.readCp0 Config.cp0Cause
/-- EPC. -/
def State.epc (s : State) : Word := s.readCp0 Config.cp0Epc
/-- PRid. -/
def State.prid (s : State) : Word := s.readCp0 Config.cp0Prid

/-- The call gate `pc` is at, if any: `pc & GATE_MASK` compared with A, B and C (R91). -/
def gateOf (pc : Word) : Option Gate :=
  if pc &&& Config.gateMask = Config.gateA then some .a
  else if pc &&& Config.gateMask = Config.gateB then some .b
  else if pc &&& Config.gateMask = Config.gateC then some .c
  else none

/-- The call number `x[CALLNUM_REG] & 0xFF` (R91, `43_host_control.md` R195). -/
def State.callNumber (s : State) : Byte := (s.readGpr Config.callnumReg).extractLsb' 0 8

/-- `Quiet[t]` (`43_host_control.md` R196). -/
def quietOf (q : QuietCalls) : Gate → QuietPair
  | .a => q.a
  | .b => q.b
  | .c => q.c

/-- `n in Quiet[t]` (`43_host_control.md` R194, R196). -/
def isQuiet (q : QuietCalls) (t : Gate) (n : Byte) : Bool :=
  n == (quietOf q t).low || n == (quietOf q t).high

/-- `pc[31:23] == KERNEL_PREFIX9` (R92). -/
def inKernelSegment (pc : Word) : Bool := pc.extractLsb' 23 9 == Config.kernelPrefix9

/-- `(cycle - nextBase) mod 2^32` (`42_event_scheduler.md` R171). -/
def elapsed (cycle base : Word) : Word := cycle - base

/-- The comparator: `elapsed >= nextEvent`, unsigned (`42_event_scheduler.md` R171). -/
def timerDue (cycle base event : Word) : Bool := event.ule (elapsed cycle base)

end Sys2Proof.Machine
end

