-- ==== Sys2Proof/Machine/Ops.lean ====
section
/-!
DEFINITION. The shared operations: the outputs of a command, the collaborators' answers, memory as the
fetch port shows it, the fetch, the geometry-coprocessor special case, TAKING AN EXCEPTION, resetting
the block's registers, and which commands the block accepts. The block has no return from exception
(`60_exceptions.md` R227): the backend writes SR and `pc` through WR_CP0 and WR_PC.
-/
namespace Sys2Proof.Machine

/-! ### Outputs (`30_encoding.md` R80) -/

/-- A command begins: no read value, status ok, no call made yet. -/
def State.accept (s : State) : State := { s with out := Output.ok }

/-- `rdata <- v` (`00_scope.md` R9). -/
def State.setRdata (s : State) (v : Word) : State :=
  { s with out := { s.out with rdata := some v } }

/-- Returns a host status (`43_host_control.md` R190). -/
def State.setHostStatus (s : State) (v : Int) : State :=
  { s with out := { s.out with hostStatus := some v } }

/-- Appends a collaborator call or a diagnostic event. -/
def State.emit (s : State) (e : Event) : State :=
  { s with out := { s.out with events := s.out.events ++ [e] } }

/-! ### Writing the registers -/

/-- `pc <- v`. -/
def State.setPc (s : State) (v : Word) : State := { s with pc := v }
/-- `hi <- v`. -/
def State.setHi (s : State) (v : Word) : State := { s with hi := v }
/-- `lo <- v`. -/
def State.setLo (s : State) (v : Word) : State := { s with lo := v }
/-- `cycle <- v`. -/
def State.setCycle (s : State) (v : Word) : State := { s with cycle := v }
/-- `gte <- g`. -/
def State.setGte (s : State) (g : GteRegs) : State := { s with gte := g }
/-- `nextEvent <- v`. -/
def State.setNextEvent (s : State) (v : Word) : State := { s with nextEvent := v }
/-- `nextBase <- v`. -/
def State.setNextBase (s : State) (v : Word) : State := { s with nextBase := v }
/-- The interrupt request becomes `q`. -/
def State.setIrq (s : State) (q : IrqIn) : State := { s with irqIn := q }
/-- The host's state becomes `h`. -/
def State.setHost (s : State) (h : HostState) : State := { s with host := h }
/-- The timing-fix value becomes `v`: the one configuration input the host writes (`90_conflicts.md` C6). -/
def State.setTimingFix (s : State) (v : Nat) : State :=
  { s with cfg := { s.cfg with timingFix := v } }

/-! ### Answers of the collaborators (R80; log 9) -/

/-- The answer to the call being made: the next one presented, or a free value. -/
def State.draw (s : State) : Answer × State :=
  match s.answers with
  | a :: rest => (a, { s with answers := rest })
  | [] => (Config.answer s.draws, { s with draws := s.draws + 1 })

/-! ### Memory (`20_memory.md`) -/

/-- The byte listed at `a`, if one is. -/
def Memory.read : Memory → Nat → Option Byte
  | [], _ => none
  | (k, b) :: rest, a => if k = a then some b else Memory.read rest a

/-- Lists `b` at `a`, keeping the addresses strictly rising. -/
def Memory.write : Memory → Nat → Byte → Memory
  | [], a, b => [(a, b)]
  | (k, c) :: rest, a, b =>
    if a < k then (a, b) :: (k, c) :: rest
    else if a = k then (a, b) :: rest
    else (k, c) :: Memory.write rest a b

/-- Every address of the list is above `lo` and below 2^32, and each is below the next. -/
def Memory.risingAbove : Memory → Nat → Bool
  | [], _ => true
  | (k, _) :: rest, lo => decide (lo ≤ k) && decide (k < 2 ^ 32) && Memory.risingAbove rest (k + 1)

/-- The canonical form: addresses strictly rising, each a 32-bit address (R60). An unlisted address
shows no byte, so no entry can equal what an unlisted address shows. -/
def Memory.wf (m : Memory) : Bool := m.risingAbove 0

/-- The byte the fetch port is known to show at `a`. -/
def State.readByte (s : State) (a : Word) : Option Byte := Memory.read s.mem a.toNat

/-- The fetch port shows `b` at `a` from now on. -/
def State.setByte (s : State) (a : Word) (b : Byte) : State :=
  { s with mem := Memory.write s.mem a.toNat b }

/-- The memory subsystem replaces its contents: no byte is known any more (log 5). -/
def State.memoryReplaced (s : State) : State := { s with mem := [], memEpoch := s.memEpoch + 1 }

/-- The word four bytes form, the byte at the lowest address first (R62). -/
def assembleWord (b0 b1 b2 b3 : Byte) : Word :=
  match Config.memEndian with
  | .little => b3 ++ b2 ++ b1 ++ b0
  | .big => b0 ++ b1 ++ b2 ++ b3

/-- Byte `i` of a word in memory, `i = 0` at the lowest address: the inverse of `assembleWord`. -/
def wordByte (w : Word) (i : Nat) : Byte :=
  match Config.memEndian with
  | .little => w.extractLsb' (8 * i) 8
  | .big => w.extractLsb' (24 - 8 * i) 8

/-- Byte `i` of the word the fetch port shows at the aligned address `a`: the listed byte; where none is
listed, byte `i` of the oracle's word (R61). So a store of one byte is seen beside bytes nobody has listed
(R70). -/
def State.shownByte (s : State) (a : Word) (i : Nat) : Byte :=
  (s.readByte (a + BitVec.ofNat 32 i)).getD (wordByte (Config.fetchOracle s.memEpoch s.mem a) i)

/-- `Fetch(addr)` (R60 to R63): the four bytes shown at an aligned address; at a misaligned address the
oracle's word, a function of the memory's contents and the address. -/
def State.fetch (s : State) (a : Word) : Word :=
  if a.extractLsb' 0 2 = 0#2 then
    assembleWord (s.shownByte a 0) (s.shownByte a 1) (s.shownByte a 2) (s.shownByte a 3)
  else Config.fetchOracle s.memEpoch s.mem a

/-- Stores a word's four bytes at `a`. -/
def State.setWord (s : State) (a : Word) (w : Word) : State :=
  (((s.setByte a (wordByte w 0)).setByte (a + 1#32) (wordByte w 1)).setByte (a + 2#32)
    (wordByte w 2)).setByte (a + 3#32) (wordByte w 3)

/-! ### The exception dispatcher (`41_exception_dispatch.md` R140) -/

/-- Step 2 for the word `w`: with HLE off and the pattern of R90, a non-empty handler is applied to
`gte` (R142, R143); in every other case nothing. -/
def State.gteSpecialCase (s : State) (w : Word) : State :=
  if s.cfg.hle = false ∧ isGteWord w = true ∧ gteIndex w ∈ s.tables.gteEntries then
    (s.setGte (Config.gteHandler (gteIndex w) s.gte w)).emit (.gteHandler (gteIndex w) w)
  else s

/-- TAKING AN EXCEPTION: `RAISE(code, bdt)`, steps 1 to 6 in order (R140). What is read is as it was at
the start of the command (`SR_old`, `Cause_old`, `pc_old`). -/
def State.takeException (s : State) (code : Word) (bdt : Bdt) : State :=
  ((((((s.emit (.fetch s.pc)).gteSpecialCase (s.fetch s.pc)).writeCp0 Config.cp0Cause
    (causeOnEntry bdt s.cause code)).writeCp0 Config.cp0Epc
    (epcOnEntry bdt s.pc)).setPc (exceptionVector s.sr)).writeCp0 Config.cp0Sr
    (srPush s.sr))

/-! ### Reset of the block's state (`70_reset_and_hazards.md` R260) -/

/-- RESET_STATE's effect. `nextEvent` and `nextBase` are not written. -/
def State.resetBlock (s : State) : State :=
  ({ s with
      x := Vector.replicate 32 0#32, hi := 0#32, lo := 0#32, cycle := 0#32
      cp0 := Vector.replicate 32 0#32, gte := ⟨0⟩, pc := Config.bootVector
      host := { s.host with phase := .live } }.writeCp0 Config.cp0Sr
    (srAfterReset s.cfg.hle)).writeCp0 Config.cp0Prid Config.pridReset

/-! ### Which commands are accepted (`43_host_control.md` R193, `70_reset_and_hazards.md` R264) -/

/-- A command that needs a reset block: refused before the first RESET_STATE and from HOST_SHUTDOWN to
the HOST_RESET that follows the next HOST_INIT. -/
def State.whenLive (s t : State) : Host.Outcome State Fault Refusal :=
  match s.host.phase with
  | .live => .next t
  | .unreset => .refused .beforeFirstReset
  | .shutDown => .refused .afterShutdown
  | .reinitialised => .refused .afterShutdown

/-- RESET_STATE and HOST_SHUTDOWN: also accepted before the first RESET_STATE; after HOST_SHUTDOWN refused
until the block is live again. -/
def State.whenNotShutDown (s t : State) : Host.Outcome State Fault Refusal :=
  match s.host.phase with
  | .live => .next t
  | .unreset => .next t
  | .shutDown => .refused .afterShutdown
  | .reinitialised => .refused .afterShutdown

/-- HOST_RESET: after HOST_SHUTDOWN accepted once HOST_INIT has succeeded. -/
def State.whenInitialised (s t : State) : Host.Outcome State Fault Refusal :=
  match s.host.phase with
  | .live => .next t
  | .unreset => .next t
  | .reinitialised => .next t
  | .shutDown => .refused .afterShutdown

end Sys2Proof.Machine
end

