-- ==== Sys2Proof/Machine/EventScheduler.lean ====
section
/-!
DEFINITION. The event scheduler (`42_event_scheduler.md` R170 to R176).
-/
namespace Sys2Proof.Machine

/-- What a command does when the hardware-timer update issues it: its two ports WR_NEXT_EVENT and
WR_NEXT_BASE, and nothing else ("It writes no other register of the block and issues no RAISE itself",
R172). -/
def State.timerCommand (s : State) : Instr → State
  | .wrNextEvent v => s.setNextEvent v
  | .wrNextBase v => s.setNextBase v
  | .rdGpr _ | .wrGpr _ _ | .rdPc | .wrPc _ | .rdHi | .wrHi _ | .rdLo | .wrLo _ | .rdCp0 _
  | .wrCp0 _ _ | .rdCycle | .addCycle _ | .rdNextEvent | .rdNextBase | .raise _ _ | .branchTest
  | .resetState | .hostInit | .hostReset | .hostShutdown | .jumpTest | .bootRun
  | .gteSpecial _ => s

/-- An act of the hardware-timer update or of the peripheral reset: the two scheduler registers and the
interrupt request (R172). -/
def State.timerAct (s : State) : Act → State
  | .command i => s.timerCommand i
  | .irq q => s.setIrq q
  | .setByte _ _ => s
  | .timingFix _ => s

/-- Acts in order. -/
def State.timerActs (s : State) (acts : List Act) : State := acts.foldl State.timerAct s

/-- The answer of the hardware-timer update or of the peripheral reset: new `nextEvent`, `nextBase` and
`irqIn` "under no law" (R172). -/
def State.timerAnswer (s : State) : State := s.draw.2.timerActs s.draw.1.acts

/-- `call TimerUpdate()` (R172). -/
def State.timerUpdate (s : State) : State := (s.emit .timerUpdate).timerAnswer

/-- PRESUMED by the spec (G12): the default interrupt arbiter (R174). -/
def defaultArbiter (sr : Word) (irq : IrqIn) : Option (Word × Bdt) :=
  if irq.pending && srIEc sr && srIM2 sr then some (Config.irqCode, 0#2) else none

/-- `IntEval(SR, Cause, irqIn)` (R173): the default of R174, which reads no bit of Cause, or an external
one. -/
def interruptEvaluation (k : Arbiter) (sr cause : Word) (irq : IrqIn) : Option (Word × Bdt) :=
  match k with
  | .default => defaultArbiter sr irq
  | .external => Config.intEval sr cause irq

/-- What the evaluation returns in `s`. -/
def State.interruptRequest (s : State) : Option (Word × Bdt) :=
  interruptEvaluation s.tables.arbiter s.sr s.cause s.irqIn

/-- The comparator and, when it triggers, the update (R170, R171). -/
def State.timerTest (s : State) : State :=
  if timerDue s.cycle s.nextBase s.nextEvent then s.timerUpdate else s

/-- The interrupt evaluation and the at most one RAISE it requests (R173). -/
def State.interruptTest (s : State) : State :=
  match s.interruptRequest with
  | none => s.emit .intEval
  | some (code, bdt) => (s.emit .intEval).takeException code bdt

/-- `BRANCH_TEST`: comparator, update, evaluation, at most one RAISE (R170). -/
def State.branchTest (s : State) : State := s.timerTest.interruptTest

/-- `BRANCH_TEST` (R170). -/
def execBranchTest (s : State) : Host.Outcome State Fault Refusal :=
  s.whenLive s.accept.branchTest

end Sys2Proof.Machine
end

