-- ==== Sys2Proof/Machine/ExceptionDispatch.lean ====
section
/-!
DEFINITION. The exception dispatcher (`41_exception_dispatch.md` R140 to R150).
-/
namespace Sys2Proof.Machine

/-- `RAISE <code>, <bdt>`: the transition of R140, for every code and every `bdt` (R148; `bdt = 1` is
computed literally, `93_implementation_defined.md` I2). -/
def execRaise (code : Word) (bdt : Bdt) (s : State) : Host.Outcome State Fault Refusal :=
  s.whenLive (s.accept.takeException code bdt)

/-- The geometry-coprocessor instruction word `w`, as step 2 of the dispatcher performs it (R142). It is
"not a command": a run reaches it inside a RAISE whose fetch returns `w`. -/
def execGteSpecial (w : Word) (s : State) : Host.Outcome State Fault Refusal :=
  s.whenLive (s.accept.gteSpecialCase w)

end Sys2Proof.Machine
end

