-- ==== Sys2Proof/Machine/Agents.lean ====
section
/-!
DEFINITION. What the commands do that a collaborator issues while the block performs a host command: a
block of the execution backend (`43_host_control.md` R191), a firmware handler (R196), the HLE boot-state
installer (`70_reset_and_hazards.md` R262). A read command changes nothing the block holds; its value goes
to the collaborator that asked.
-/
namespace Sys2Proof.Machine

/-- The effect of a block command (`30_encoding.md` R82, kind "block"). A host command or the pattern is
no block command: the collaborator cannot issue it here. -/
def State.blockCommand (s : State) : Instr → State
  | .rdGpr _ | .rdPc | .rdHi | .rdLo | .rdCp0 _ | .rdCycle | .rdNextEvent | .rdNextBase => s
  | .wrGpr n v => s.writeGpr n v
  | .wrPc v => s.setPc v
  | .wrHi v => s.setHi v
  | .wrLo v => s.setLo v
  | .wrCp0 n v => s.writeCp0 n v
  | .addCycle n => s.setCycle (s.cycle + n)
  | .wrNextEvent v => s.setNextEvent v
  | .wrNextBase v => s.setNextBase v
  | .raise code bdt => s.takeException code bdt
  | .branchTest => s.branchTest
  | .resetState => s.resetBlock
  | .hostInit | .hostReset | .hostShutdown | .jumpTest | .bootRun | .gteSpecial _ => s

/-- An act of a firmware handler: "a finite sequence of block commands the handler chooses" (R196), and
changes of memory and of the interrupt request. -/
def State.handlerAct (s : State) : Act → State
  | .command i => s.blockCommand i
  | .setByte a b => s.setByte a b
  | .irq q => s.setIrq q
  | .timingFix _ => s

/-- Acts in order. -/
def State.handlerActs (s : State) (acts : List Act) : State := acts.foldl State.handlerAct s

/-- The SR bits CU2 and BEV as `old` has them, the rest as `new` has it (`92_eei_decisions.md` D38). -/
def keepBootBits (old new : Word) : Word := (new &&& ~~~srBootMask) ||| (old &&& srBootMask)

/-- An act of `SetupHleBootState`: any block command, except that it leaves the SR bits CU2 and BEV as
they are (`70_reset_and_hazards.md` R262, D38). -/
def State.setupAct (s : State) (a : Act) : State :=
  (s.handlerAct a).writeCp0 Config.cp0Sr (keepBootBits s.sr (s.handlerAct a).sr)

/-- Acts in order. -/
def State.setupActs (s : State) (acts : List Act) : State := acts.foldl State.setupAct s

/-- An act of a collaborator that has no port to the block's registers (`Firmware.Init`,
`TryIntroBypass`): changes of memory and of the interrupt request. -/
def State.outsideAct (s : State) : Act → State
  | .command _ => s
  | .setByte a b => s.setByte a b
  | .irq q => s.setIrq q
  | .timingFix _ => s

/-- Acts in order. -/
def State.outsideActs (s : State) (acts : List Act) : State := acts.foldl State.outsideAct s

/-! ### The Firmware Syscall Interceptor (`43_host_control.md` R194 to R196) -/

/-- `call FwHandler[t][n]()` (R196): the handler's commands are a draw. -/
def State.callHandler (s : State) (t : Gate) (n : Byte) : State :=
  (s.emit (.fwHandler t n)).draw.2.handlerActs (s.emit (.fwHandler t n)).draw.1.acts

/-- `if cfg.fwLog == 1 and n not in Quiet[t] then emit Log(t, n)` (R194). -/
def State.logCall (s : State) (t : Gate) (n : Byte) : State :=
  if s.cfg.fwLog = true ∧ isQuiet s.tables.quiet t n = false then s.emit (.log t n) else s

/-- The handler that JUMP_TEST finds: interception active, `pc` at a gate, the entry non-empty (R194). -/
def State.interceptedCall (s : State) : Option (Gate × Byte) :=
  if s.cfg.hle = true ∨ s.cfg.fwIntercept = false then none
  else
    match gateOf s.pc with
    | none => none
    | some t => if (t, s.callNumber) ∈ s.tables.fwEntries then some (t, s.callNumber) else none

/-- `JUMP_TEST` (R194). -/
def State.jumpTest (s : State) : State :=
  match s.interceptedCall with
  | none => s
  | some (t, n) => (s.logCall t n).callHandler t n

/-! ### One block of the execution backend (`43_host_control.md` R191) -/

/-- What a command does when a backend block issues it: the commands of `40_register_access.md`, RAISE,
BRANCH_TEST and JUMP_TEST (R191), and nothing else. -/
def State.backendCommand (s : State) (i : Instr) : State :=
  match i with
  | .jumpTest => s.jumpTest
  | .rdGpr _ | .wrGpr _ _ | .rdPc | .wrPc _ | .rdHi | .wrHi _ | .rdLo | .wrLo _ | .rdCp0 _
  | .wrCp0 _ _ | .rdCycle | .addCycle _ | .rdNextEvent | .rdNextBase | .wrNextEvent _
  | .wrNextBase _ | .raise _ _ | .branchTest => s.blockCommand i
  | .resetState | .hostInit | .hostReset | .hostShutdown | .bootRun | .gteSpecial _ => s

/-- An act of a backend block: its commands, the stores its instructions make, and, because "firmware
execution is known to mutate it", the timing-fix value (`93_implementation_defined.md` I16). -/
def State.backendAct (s : State) : Act → State
  | .command i => s.backendCommand i
  | .setByte a b => s.setByte a b
  | .irq q => s.setIrq q
  | .timingFix v => s.setTimingFix v

/-- Acts in order. -/
def State.backendActs (s : State) (acts : List Act) : State := acts.foldl State.backendAct s

/-- `call backend.ExecuteBlock(reason)` (R191): the block's commands are a draw (D34). -/
def State.executeBlock (s : State) (reason : BlockReason) : State :=
  (s.emit (.executeBlock reason)).draw.2.backendActs (s.emit (.executeBlock reason)).draw.1.acts

end Sys2Proof.Machine
end

