-- ==== Sys2Proof/Machine/HostControl.lean ====
section
/-!
DEFINITION. The host commands: HOST_INIT, HOST_SHUTDOWN, JUMP_TEST, BOOT_RUN (`43_host_control.md` R190 to
R201).
-/
namespace Sys2Proof.Machine

/-! ### HOST_INIT (R190, R192) -/

/-- `SelectBackend(cfg.backend)`: the backend configured, if the host offers it; the Interpreter, which
"is always available", otherwise (R192). -/
def selectBackend (offers : List BackendKind) (k : BackendKind) : BackendKind :=
  if k ∈ offers then k else .interpreter

/-- `backend <- SelectBackend(cfg.backend)` (R190). -/
def State.chooseBackend (s : State) : State :=
  s.setHost { s.host with backend := some (selectBackend s.tables.offers s.cfg.backend) }

/-- The phase after HOST_INIT returned `status`: after HOST_SHUTDOWN a status of 0 lets HOST_RESET in
(R193, `70_reset_and_hazards.md` R264); any other phase is left. -/
def phaseAfterInit (p : Phase) (status : Int) : Phase :=
  match p with
  | .shutDown => if status = 0 then .reinitialised else .shutDown
  | .reinitialised => if status = 0 then .reinitialised else .shutDown
  | .unreset => .unreset
  | .live => .live

/-- HOST_INIT returns `status`. -/
def State.finishInit (s : State) (status : Int) : State :=
  (s.setHost { s.host with phase := phaseAfterInit s.host.phase status }).setHostStatus status

/-- `if backendInitOnce == 1 then return call backend.Init()`, else 0 (R190). -/
def State.initBackend (s : State) : State :=
  if s.host.backendInitOnce then
    (s.emit .backendInit).draw.2.finishInit (s.emit .backendInit).draw.1.status
  else s.finishInit 0

/-- `s <- call Mem.Init()` with its answer; the memory subsystem's contents are new (log 5). -/
def State.memInit (s : State) : Answer × State := (s.emit .memInit).memoryReplaced.draw

/-- `HOST_INIT` (R190). -/
def State.hostInit (s : State) : State :=
  if s.chooseBackend.memInit.1.status = 0 then s.chooseBackend.memInit.2.initBackend
  else s.chooseBackend.memInit.2.finishInit s.chooseBackend.memInit.1.status

/-- `HOST_INIT` (R190): accepted in every phase. -/
def execHostInit (s : State) : Host.Outcome State Fault Refusal := .next s.accept.hostInit

/-! ### HOST_SHUTDOWN (R193) -/

/-- What a freed block's general registers hold: free values. `x[0]` still reads as zero, and its cell
holds zero. -/
def freedGprs (draw : Nat) : Vector Word 32 :=
  Vector.ofFn fun i => if i = 0 then 0#32 else Config.freedWord draw i

/-- What a freed block's CP0 cells hold: free values. -/
def freedCells (draw : Nat) : Vector Word 32 := Vector.ofFn fun i => Config.freedWord draw (32 + i)

/-- "CPU State is freed": every register of the block holds a free value (R193; log 11). -/
def State.freeBlock (s : State) : State :=
  { s with
      x := freedGprs s.draws, cp0 := freedCells s.draws
      pc := Config.freedWord s.draws 64, hi := Config.freedWord s.draws 65
      lo := Config.freedWord s.draws 66, cycle := Config.freedWord s.draws 67
      nextEvent := Config.freedWord s.draws 68, nextBase := Config.freedWord s.draws 69
      gte := Config.freedGte s.draws, draws := s.draws + 1 }

/-- `HOST_SHUTDOWN`: the three calls in order, each made whatever the previous did (R193). -/
def State.hostShutdown (s : State) : State :=
  ((((s.emit .firmwareShutdown).emit .backendShutdown).emit .memShutdown).memoryReplaced.freeBlock).setHost
    { s.host with backend := none, phase := .shutDown }

/-- `HOST_SHUTDOWN` (R193): refused after an earlier HOST_SHUTDOWN, like every command but HOST_INIT, until
a HOST_INIT and a HOST_RESET have been performed (log 12). -/
def execHostShutdown (s : State) : Host.Outcome State Fault Refusal :=
  s.whenNotShutDown s.accept.hostShutdown

/-! ### JUMP_TEST (R194) -/

/-- `JUMP_TEST` (R194). -/
def execJumpTest (s : State) : Host.Outcome State Fault Refusal := s.whenLive s.accept.jumpTest

/-! ### BOOT_RUN (R197 to R199) -/

/-- `bootState <- running; bootCount <- 0` (R197). -/
def State.bootStart (s : State) : State :=
  s.setHost { s.host with bootState := .running, bootCount := 0 }

/-- One pass of the loop: a block, and the count (R197). -/
def State.bootBlock (s : State) : State :=
  (s.executeBlock .boot).setHost
    { (s.executeBlock .boot).host with bootCount := (s.executeBlock .boot).host.bootCount + 1 }

/-- The Boot Sequencer ends in state `b`. -/
def State.setBootState (s : State) (b : BootState) : State :=
  s.setHost { s.host with bootState := b }

/-- The loop with `fuel` passes left: the kernel test is made after every block, the last included
(R198). -/
def State.bootLoop : Nat → State → State
  | 0, s => s.setBootState .exhausted
  | fuel + 1, s =>
    if inKernelSegment s.bootBlock.pc then s.bootBlock.setBootState .reachedKernel
    else State.bootLoop fuel s.bootBlock

/-- `if bootState == exhausted or pc != KERNEL_ENTRY then emit NonStandardFirmware(bootCount, pc)`
(R199). -/
def State.bootDiagnostic (s : State) : State :=
  if s.host.bootState = .exhausted ∨ s.pc ≠ Config.kernelEntry then
    s.emit (.nonStandardFirmware s.host.bootCount s.pc)
  else s

/-- `BOOT_RUN` (R197). -/
def State.bootRun (s : State) : State := (State.bootLoop Config.bootCap s.bootStart).bootDiagnostic

/-- `BOOT_RUN` (R197). -/
def execBootRun (s : State) : Host.Outcome State Fault Refusal := s.whenLive s.accept.bootRun

end Sys2Proof.Machine
end

