-- ==== Sys2Proof/Machine/RegisterAccess.lean ====
section
/-!
DEFINITION. The register-access commands (`40_register_access.md` R100 to R115): the ports through which
the backend and the hardware-timer update read and write the block's state.
-/
namespace Sys2Proof.Machine

/-- `RD_GPR r<n>`: `rdata <- x[n]` (R100). -/
def execRdGpr (n : RegNum) (s : State) : Host.Outcome State Fault Refusal :=
  s.whenLive (s.accept.setRdata (s.readGpr n))

/-- `WR_GPR r<n>, v`: `if n != 0 then x[n] <- v` (R101). -/
def execWrGpr (n : RegNum) (v : Word) (s : State) : Host.Outcome State Fault Refusal :=
  s.whenLive (s.accept.writeGpr n v)

/-- `RD_PC`: `rdata <- pc` (R102). -/
def execRdPc (s : State) : Host.Outcome State Fault Refusal :=
  s.whenLive (s.accept.setRdata s.pc)

/-- `WR_PC v`: `pc <- v`, with no check of `v` (R103). -/
def execWrPc (v : Word) (s : State) : Host.Outcome State Fault Refusal :=
  s.whenLive (s.accept.setPc v)

/-- `RD_HI`: `rdata <- hi` (R104). -/
def execRdHi (s : State) : Host.Outcome State Fault Refusal :=
  s.whenLive (s.accept.setRdata s.hi)

/-- `WR_HI v`: `hi <- v` (R105). -/
def execWrHi (v : Word) (s : State) : Host.Outcome State Fault Refusal :=
  s.whenLive (s.accept.setHi v)

/-- `RD_LO`: `rdata <- lo` (R106). -/
def execRdLo (s : State) : Host.Outcome State Fault Refusal :=
  s.whenLive (s.accept.setRdata s.lo)

/-- `WR_LO v`: `lo <- v` (R107). -/
def execWrLo (v : Word) (s : State) : Host.Outcome State Fault Refusal :=
  s.whenLive (s.accept.setLo v)

/-- `RD_CP0 <n>`: `rdata <- cp0[n]` (R108). -/
def execRdCp0 (n : RegNum) (s : State) : Host.Outcome State Fault Refusal :=
  s.whenLive (s.accept.setRdata (s.readCp0 n))

/-- `WR_CP0 <n>, v`: `cp0[n] <- v`, all 32 bits, for every `n` (R109). -/
def execWrCp0 (n : RegNum) (v : Word) (s : State) : Host.Outcome State Fault Refusal :=
  s.whenLive (s.accept.writeCp0 n v)

/-- `RD_CYCLE`: `rdata <- cycle` (R110). -/
def execRdCycle (s : State) : Host.Outcome State Fault Refusal :=
  s.whenLive (s.accept.setRdata s.cycle)

/-- `ADD_CYCLE n`: `cycle <- (cycle + n) mod 2^32` (R111). -/
def execAddCycle (n : Word) (s : State) : Host.Outcome State Fault Refusal :=
  s.whenLive (s.accept.setCycle (s.cycle + n))

/-- `RD_NEXT_EVENT`: `rdata <- nextEvent` (R112). -/
def execRdNextEvent (s : State) : Host.Outcome State Fault Refusal :=
  s.whenLive (s.accept.setRdata s.nextEvent)

/-- `RD_NEXT_BASE`: `rdata <- nextBase` (R113). -/
def execRdNextBase (s : State) : Host.Outcome State Fault Refusal :=
  s.whenLive (s.accept.setRdata s.nextBase)

/-- `WR_NEXT_EVENT v`: `nextEvent <- v` (R114). -/
def execWrNextEvent (v : Word) (s : State) : Host.Outcome State Fault Refusal :=
  s.whenLive (s.accept.setNextEvent v)

/-- `WR_NEXT_BASE v`: `nextBase <- v` (R115). -/
def execWrNextBase (v : Word) (s : State) : Host.Outcome State Fault Refusal :=
  s.whenLive (s.accept.setNextBase v)

end Sys2Proof.Machine
end

