-- ==== Sys2Proof/Machine/Reset.lean ====
section
/-!
DEFINITION. RESET_STATE and HOST_RESET (`70_reset_and_hazards.md` R260 to R264).
-/
namespace Sys2Proof.Machine

/-- `RESET_STATE` (R260): the one block command accepted before the first RESET_STATE (R264). -/
def execResetState (s : State) : Host.Outcome State Fault Refusal :=
  s.whenNotShutDown s.accept.resetBlock

/-! ### The host Reset sequence (R262) -/

/-- `call Firmware.Init()`: it has no port to the block's registers. -/
def State.firmwareInit (s : State) : State :=
  (s.emit .firmwareInit).draw.2.outsideActs (s.emit .firmwareInit).draw.1.acts

/-- From `call Mem.Reset()` to `savedTimingFix <- cfg.timingFix` (R262, R263). -/
def State.resetSequence (s : State) : State :=
  ((((((s.emit .memReset).memoryReplaced).resetBlock.emit .backendApplyConfig).emit
    .backendReset).emit .hwReset).timerAnswer).firmwareInit

/-- `savedTimingFix <- cfg.timingFix` (R262). -/
def State.saveTimingFix (s : State) : State :=
  s.setHost { s.host with savedTimingFix := s.cfg.timingFix }

/-- `bypassed <- call Firmware.TryIntroBypass()`: a Boolean the block does not choose (R262). -/
def State.tryIntroBypass (s : State) : Bool × State :=
  ((s.emit .tryIntroBypass).draw.1.flag,
    (s.emit .tryIntroBypass).draw.2.outsideActs (s.emit .tryIntroBypass).draw.1.acts)

/-- The boot with HLE off: BOOT_RUN, and the bypass attempt when the boot ends exactly at the kernel
entry under the bypass policy; the Boolean is `bypassed` (R262). -/
def State.bootOrBypass (s : State) : Bool × State :=
  if s.cfg.hle then (false, s)
  else if s.bootRun.pc = Config.kernelEntry ∧ s.bootRun.cfg.introPolicy = true then
    s.bootRun.tryIntroBypass
  else (false, s.bootRun)

/-- `call Firmware.SetupHleBootState()`: block commands of its own choosing that leave the SR bits CU2
and BEV (R262, D38). -/
def State.setupHleBootState (s : State) : State :=
  (s.emit .setupHleBootState).draw.2.setupActs (s.emit .setupHleBootState).draw.1.acts

/-- `if cfg.hle == 1 or bypassed == 1 then call Firmware.SetupHleBootState()` (R262). -/
def State.installBootState (s : State) (bypassed : Bool) : State :=
  if s.cfg.hle || bypassed then s.setupHleBootState else s

/-- `cfg.timingFix <- savedTimingFix`, unconditional (R262). -/
def State.restoreTimingFix (s : State) : State := s.setTimingFix s.host.savedTimingFix

/-- `HOST_RESET` (R262). -/
def State.hostReset (s : State) : State :=
  (s.resetSequence.saveTimingFix.bootOrBypass.2.installBootState
    s.resetSequence.saveTimingFix.bootOrBypass.1).restoreTimingFix

/-- `HOST_RESET` (R262): after HOST_SHUTDOWN accepted once HOST_INIT has succeeded (R193, R264). -/
def execHostReset (s : State) : Host.Outcome State Fault Refusal :=
  s.whenInitialised s.accept.hostReset

end Sys2Proof.Machine
end

