-- ==== Sys2Proof/Machine/Dispatch.lean ====
section
/-!
DEFINITION. One arm per instruction of `spec/opcode_table.json`.
-/
namespace Sys2Proof.Machine

/-- What an instruction does (`30_encoding.md` R82). -/
def exec (i : Instr) (s : State) : Host.Outcome State Fault Refusal :=
  match i with
  -- 40_register_access.md
  | .rdGpr n => Sys2Proof.Machine.execRdGpr n s
  | .wrGpr n v => Sys2Proof.Machine.execWrGpr n v s
  | .rdPc => Sys2Proof.Machine.execRdPc s
  | .wrPc v => Sys2Proof.Machine.execWrPc v s
  | .rdHi => Sys2Proof.Machine.execRdHi s
  | .wrHi v => Sys2Proof.Machine.execWrHi v s
  | .rdLo => Sys2Proof.Machine.execRdLo s
  | .wrLo v => Sys2Proof.Machine.execWrLo v s
  | .rdCp0 n => Sys2Proof.Machine.execRdCp0 n s
  | .wrCp0 n v => Sys2Proof.Machine.execWrCp0 n v s
  | .rdCycle => Sys2Proof.Machine.execRdCycle s
  | .addCycle n => Sys2Proof.Machine.execAddCycle n s
  | .rdNextEvent => Sys2Proof.Machine.execRdNextEvent s
  | .rdNextBase => Sys2Proof.Machine.execRdNextBase s
  | .wrNextEvent v => Sys2Proof.Machine.execWrNextEvent v s
  | .wrNextBase v => Sys2Proof.Machine.execWrNextBase v s
  -- 41_exception_dispatch.md
  | .raise code bdt => Sys2Proof.Machine.execRaise code bdt s
  -- 42_event_scheduler.md
  | .branchTest => Sys2Proof.Machine.execBranchTest s
  -- 70_reset_and_hazards.md and 43_host_control.md
  | .resetState => Sys2Proof.Machine.execResetState s
  | .hostInit => Sys2Proof.Machine.execHostInit s
  | .hostReset => Sys2Proof.Machine.execHostReset s
  | .hostShutdown => Sys2Proof.Machine.execHostShutdown s
  | .jumpTest => Sys2Proof.Machine.execJumpTest s
  | .bootRun => Sys2Proof.Machine.execBootRun s
  -- 30_encoding.md R90, 41_exception_dispatch.md R142
  | .gteSpecial w => Sys2Proof.Machine.execGteSpecial w s

end Sys2Proof.Machine
end

