-- ==== Sys2Proof/Machine/Inputs.lean ====
section
/-!
DEFINITION. What `step` does with one input: a command word is decoded and performed, or refused by name
(`30_encoding.md` R84 to R86); a change of the surroundings takes place between two commands
(`00_scope.md` R5, R7). And how a word of the opcode table is placed for the next step.
-/
namespace Sys2Proof.Machine

/-- The refusal of a word that is no command (R84, R85). -/
def refusalOf : DecodeError → Refusal
  | .reservedOpcode => .reservedOpcode
  | .unusedFieldNonZero => .unusedFieldNonZero
  | .notGtePattern => .reservedOpcode

/-- Performs the command `cw` names, or refuses it (R80, R86). -/
def performWord (cw : CmdWord) (s : State) : Host.Outcome State Fault Refusal :=
  match decodeCommand cw with
  | .ok i => exec i s
  | .error e => .refused (refusalOf e)

/-- A change of the surroundings: no register of the block is touched. -/
def State.applyChange (s : State) : Change → State
  | .setByte a b => s.setByte a b
  | .irq q => s.setIrq q
  | .cfg c => { s with cfg := c }
  | .backendInitOnce b => s.setHost { s.host with backendInitOnce := b }

/-- One input, already taken from the list. A command comes with the collaborators' answers (R80). With
no input presented nothing happens. -/
def performInput (input : Option Input) (s : State) : Host.Outcome State Fault Refusal :=
  match input with
  | none => .next s
  | some (.command cw answers) => performWord cw { s with answers := answers }
  | some (.change c) => .next (s.applyChange c)

/-- `s` with the input presented first. -/
def State.present (s : State) (input : Input) : State := { s with inputs := input :: s.inputs }

/-- The command word that makes the dispatcher fetch at `pc`: `RAISE 0, 0` (R82). -/
def raiseWord : CmdWord := 0x880000000000#48

/-- `s` with the target-CPU word `w` where the dispatcher fetches it, in the mode in which the block
performs it: `w` at `pc` (made a multiple of 4, since a misaligned fetch answers the oracle's word), HLE
off (`41_exception_dispatch.md` R142), and `RAISE 0, 0` presented. -/
def State.placeInsn (s : State) (w : Word) : State :=
  (({ s with pc := s.pc &&& ~~~3#32, cfg := { s.cfg with hle := false } }.setWord
    (s.pc &&& ~~~3#32) w).present (.command raiseWord []))

/-- The body of `State.withFetchWord`. -/
def State.placeWord (s : State) (nbits w : Nat) : State :=
  if nbits = 32 then s.placeInsn (BitVec.ofNat 32 w)
  else s.present (.command (BitVec.ofNat 48 w) [])

end Sys2Proof.Machine
end

