-- ==== Sys2Proof/Machine/Step.lean ====
section
/-!
DEFINITION. One step: the next input is taken and performed whole (`30_encoding.md` R80).
-/
namespace Sys2Proof.Machine

/-- One step of the machine. -/
def step (s : State) : Host.Outcome State Fault Refusal :=
  performInput s.inputs.head? { s with inputs := s.inputs.tail }

/-- `s` with an instruction of the opcode table placed so that the next step performs it: a command word
is presented on the command interface; the target-CPU word of 32 bits is put where the dispatcher fetches
it, and a RAISE is presented (log 7). -/
def State.withFetchWord (s : State) (nbits w : Nat) : State := s.placeWord nbits w

end Sys2Proof.Machine
end

