-- ==== Sys2Proof/Machine/CommandSyntax.lean ====
section
/-!
DEFINITION. The command syntax: one command per line, `;` starts a comment, numbers in decimal or `0x`
hex, and the pseudo-commands (`30_encoding.md` R89; register names `10_state.md` R20).
-/
namespace Sys2Proof.Machine

/-- A word or a comma of a command line. -/
inductive Token where
  | word (text : List Char)
  | comma
  deriving DecidableEq, Repr

/-- The word read so far, if any. -/
def endWord (cur : List Char) : List Token := if cur = [] then [] else [.word cur]

/-- The tokens of a line; `cur` is the word being read. What follows `;` is a comment (R89). -/
def tokens : List Char → List Char → List Token
  | [], cur => endWord cur
  | c :: rest, cur =>
    if c = ';' then endWord cur
    else if c = ' ' ∨ c = '\t' then endWord cur ++ tokens rest []
    else if c = ',' then endWord cur ++ .comma :: tokens rest []
    else tokens rest (cur ++ [c])

/-- The value of a digit in base `base`, which is 10 or 16. -/
def digitValue (base : Nat) (c : Char) : Option Nat :=
  if '0' ≤ c ∧ c ≤ '9' then some (c.toNat - '0'.toNat)
  else if base = 16 ∧ 'a' ≤ c ∧ c ≤ 'f' then some (c.toNat - 'a'.toNat + 10)
  else if base = 16 ∧ 'A' ≤ c ∧ c ≤ 'F' then some (c.toNat - 'A'.toNat + 10)
  else none

/-- The number that digits write after `acc`. -/
def digitsValue (base : Nat) : List Char → Nat → Option Nat
  | [], acc => some acc
  | c :: rest, acc =>
    match digitValue base c with
    | some d => digitsValue base rest (acc * base + d)
    | none => none

/-- A number "in decimal or `0x` hex" (R89). -/
def number : List Char → Option Nat
  | [] => none
  | ['0', 'x'] => none
  | '0' :: 'x' :: digits => digitsValue 16 digits 0
  | digits => digitsValue 10 digits 0

/-- A number that fits in `w` bits. -/
def fitted (w : Nat) (text : List Char) : Option (BitVec w) :=
  match number text with
  | some n => if n < 2 ^ w then some (BitVec.ofNat w n) else none
  | none => none

/-- PRESUMED by the spec (G15): the conventional register names, in order (`10_state.md` R20). -/
def gprNames : List String :=
  ["zero", "at", "v0", "v1", "a0", "a1", "a2", "a3",
   "t0", "t1", "t2", "t3", "t4", "t5", "t6", "t7",
   "s0", "s1", "s2", "s3", "s4", "s5", "s6", "s7",
   "t8", "t9", "k0", "k1", "gp", "sp", "fp", "ra"]

/-- `r<n>`, or the name of R20. DESIGN CHOICE (log 24): `n` is written like a value, in decimal or `0x`
hex. -/
def gprOperand (text : List Char) : Option RegNum :=
  match text with
  | 'r' :: digits =>
    match fitted 5 digits with
    | some n => some n
    | none => (gprNames.idxOf? (String.ofList text)).map (BitVec.ofNat 5)
  | _ => (gprNames.idxOf? (String.ofList text)).map (BitVec.ofNat 5)

/-- A cell number, or SR, CAUSE, EPC, PRID (R89). DESIGN CHOICE (log 24): the number is written like a
value, in decimal or `0x` hex. -/
def cp0Operand (text : List Char) : Option RegNum :=
  match String.ofList text with
  | "SR" => some Config.cp0Sr
  | "CAUSE" => some Config.cp0Cause
  | "EPC" => some Config.cp0Epc
  | "PRID" => some Config.cp0Prid
  | _ => fitted 5 text

/-- A line of one word: a command or a pseudo-command without operands (R89). -/
def plainCommand (mnemonic : String) : Option Instr :=
  match mnemonic with
  | "RD_PC" => some .rdPc
  | "RD_HI" => some .rdHi
  | "RD_LO" => some .rdLo
  | "RD_CYCLE" => some .rdCycle
  | "RD_NEXT_EVENT" => some .rdNextEvent
  | "RD_NEXT_BASE" => some .rdNextBase
  | "BRANCH_TEST" => some .branchTest
  | "RESET_STATE" => some .resetState
  | "HOST_INIT" => some .hostInit
  | "HOST_RESET" => some .hostReset
  | "HOST_SHUTDOWN" => some .hostShutdown
  | "JUMP_TEST" => some .jumpTest
  | "BOOT_RUN" => some .bootRun
  | "RD_SR" => some (.rdCp0 Config.cp0Sr)
  | "RD_CAUSE" => some (.rdCp0 Config.cp0Cause)
  | "RD_EPC" => some (.rdCp0 Config.cp0Epc)
  | "RD_PRID" => some (.rdCp0 Config.cp0Prid)
  | "RAISE_INT" => some (.raise Config.irqCode 0#2)
  | "RAISE_SYS" => some (.raise 0x20#32 0#2)
  | _ => none

/-- A line with one operand (R89). -/
def unaryCommand (mnemonic : String) (a : List Char) : Option Instr :=
  match mnemonic with
  | "RD_GPR" => (gprOperand a).map .rdGpr
  | "RD_CP0" => (cp0Operand a).map .rdCp0
  | "WR_PC" => (fitted 32 a).map .wrPc
  | "WR_HI" => (fitted 32 a).map .wrHi
  | "WR_LO" => (fitted 32 a).map .wrLo
  | "ADD_CYCLE" => (fitted 32 a).map .addCycle
  | "WR_NEXT_EVENT" => (fitted 32 a).map .wrNextEvent
  | "WR_NEXT_BASE" => (fitted 32 a).map .wrNextBase
  | "WR_SR" => (fitted 32 a).map (.wrCp0 Config.cp0Sr)
  | _ => none

/-- Two operands, if both are given. -/
def withBoth {α β : Type} (a : Option α) (b : Option β) (f : α → β → Instr) : Option Instr :=
  match a, b with
  | some a, some b => some (f a b)
  | _, _ => none

/-- A line with two operands (R89); `bdt = 1` is accepted, since the dispatcher computes it literally
(`93_implementation_defined.md` I2, vector V-EXC-4; log 14). DESIGN CHOICE (log 24): `bdt` is written like a
value, in decimal or `0x` hex. -/
def binaryCommand (mnemonic : String) (a b : List Char) : Option Instr :=
  match mnemonic with
  | "WR_GPR" => withBoth (gprOperand a) (fitted 32 b) .wrGpr
  | "WR_CP0" => withBoth (cp0Operand a) (fitted 32 b) .wrCp0
  | "RAISE" => withBoth (fitted 32 a) (fitted 2 b) .raise
  | _ => none

/-- The command a line's tokens write. -/
def parseTokens : List Token → Option Instr
  | [.word m] => plainCommand (String.ofList m)
  | [.word m, .word a] => unaryCommand (String.ofList m) a
  | [.word m, .word a, .comma, .word b] => binaryCommand (String.ofList m) a b
  | _ => none

/-- What a line is. -/
inductive Line where
  /-- Nothing but a comment. -/
  | blank
  | command (i : Instr)
  /-- Not a line of R89. -/
  | malformed
  deriving DecidableEq, Repr

/-- Reads one line (R89). -/
def parseLine (line : String) : Line :=
  match tokens line.toList [] with
  | [] => .blank
  | ts =>
    match parseTokens ts with
    | some i => .command i
    | none => .malformed

end Sys2Proof.Machine
end

