-- ==== Sys2Proof/Safety.lean ====
section
/-!
DEFINITION. The invariant of the machine and what a safe run is, in the terms the statements use.
-/
namespace Sys2Proof.Machine

/-- The Boot Sequencer's record: between two commands it has not started, has reached the kernel segment
after 1 to BOOT_CAP blocks, or has run BOOT_CAP blocks (`43_host_control.md` R198). -/
def HostState.bootWf (h : HostState) : Prop :=
  match h.bootState with
  | .running => h.bootCount = 0
  | .reachedKernel => 1 ≤ h.bootCount ∧ h.bootCount ≤ Config.bootCap
  | .exhausted => h.bootCount = Config.bootCap

/-- Any active backend is the Interpreter or one the host offers (`43_host_control.md` R192); after
HOST_INIT exactly one is active (`10_state.md` R35(a)), and after HOST_SHUTDOWN HOST_RESET is let in only
then (R193). -/
def State.backendWf (s : State) : Prop :=
  (∀ k, s.host.backend = some k → k = .interpreter ∨ k ∈ s.tables.offers) ∧
    (s.host.phase = .reinitialised → s.host.backend ≠ none)

/-- What holds between any two commands: memory is in canonical form, the cell of `x[0]` holds zero
(`10_state.md` R21), the boot record and the backend are legal, and the last command's status is ok
(`30_encoding.md` R80: a refused command ends the run). -/
def State.Inv (s : State) : Prop :=
  Memory.wf s.mem = true ∧ s.x[0] = 0#32 ∧ s.host.bootWf ∧ s.backendWf ∧ s.out.status = .ok

/-- RESET_STATE has been performed and the block is not freed (`70_reset_and_hazards.md` R264). -/
def State.Live (s : State) : Prop := s.host.phase = .live

/-- `t` has the registers of the block as `s` has them: those RESET_STATE writes
(`70_reset_and_hazards.md` R260). -/
def State.SameBlock (s t : State) : Prop :=
  t.x = s.x ∧ t.pc = s.pc ∧ t.hi = s.hi ∧ t.lo = s.lo ∧ t.cycle = s.cycle ∧ t.cp0 = s.cp0 ∧
    t.gte = s.gte

/-- The outputs of a read command that answers `v` (`30_encoding.md` R80). -/
def Output.read (v : Word) : Output :=
  { rdata := some v, status := .ok, hostStatus := none, events := [] }

/-- The outputs of a command that answers no value and makes these calls. -/
def Output.calls (events : List Event) : Output :=
  { rdata := none, status := .ok, hostStatus := none, events := events }

/-- The commands of kind "block" (`30_encoding.md` R82). -/
def isBlockCommand : Instr → Bool
  | .rdGpr _ | .wrGpr _ _ | .rdPc | .wrPc _ | .rdHi | .wrHi _ | .rdLo | .wrLo _ | .rdCp0 _
  | .wrCp0 _ _ | .rdCycle | .addCycle _ | .rdNextEvent | .rdNextBase | .wrNextEvent _
  | .wrNextBase _ | .raise _ _ | .branchTest | .resetState => true
  | .hostInit | .hostReset | .hostShutdown | .jumpTest | .bootRun | .gteSpecial _ => false

/-- A run of `n` steps that no refusal ends. -/
def SafeRun : Nat → State → Prop
  | 0, _ => True
  | n + 1, s => ∃ t, step s = .next t ∧ SafeRun n t

end Sys2Proof.Machine
end

