-- ==== Sys2Proof/Certificates/Slice0/Obligations.lean ====
section
/-!
DEFINITION. The statements for the provers. Each docstring says which rule of `spec/` it formalises. A
numeral for an address, a cell number or an SR bit that the source does not give is the spec's default
(log 1) and is reached through its name in `Config` wherever the rule names the parameter.
-/

open Sys2Proof Sys2Proof.Machine

/-! ### Encoding (`30_encoding.md`) -/

/-- Decode and encode agree on every well-formed instruction, every operand at every value its field
admits (R81, R82, R83, R90). -/
def Obligations.DecodeOfEncodeIsTheInstruction : Prop :=
  ∀ i : Instr, i.wellFormed = true → decode (encode i) = .ok i

/-- Each word has one meaning: a word that decodes is the encoding of the well-formed instruction it
decodes to (R84, R88). -/
def Obligations.EncodeOfDecodeIsTheWord : Prop :=
  ∀ (e : Encoded) (i : Instr), decode e = .ok i → i.wellFormed = true ∧ encode i = e

/-- R84: the command words are exactly those a row of the opcode table accepts by `CW & mask == match`,
the row is the decoded command's own, and a word no row accepts is refused. -/
def Obligations.CommandWordsAreTheRowsOfTheTable : Prop :=
  ∀ cw : CmdWord,
    ((∃ i, decodeCommand cw = .ok i) ↔ ∃ r ∈ commandRows, r.accepts cw = true) ∧
    (∀ i, decodeCommand cw = .ok i →
      ∀ r ∈ commandRows, (r.accepts cw = true ↔ r.mnemonic = i.mnemonic)) ∧
    (∀ (s : State) (answers : List Answer) (rest : List Input),
      s.inputs = .command cw answers :: rest → (∀ r ∈ commandRows, r.accepts cw = false) →
        step s = .refused .reservedOpcode ∨ step s = .refused .unusedFieldNonZero)

/-- R85: the reserved opcodes are exactly 0x00, 0x14 to 0x17 and 0x1D to 0x1F, and a command word with
one is refused. -/
def Obligations.ReservedOpcodesAreRefused : Prop :=
  ∀ cw : CmdWord,
    (decodeCommand cw = .error .reservedOpcode ↔
      cmdOp cw ∈ [0x00#5, 0x14#5, 0x15#5, 0x16#5, 0x17#5, 0x1D#5, 0x1E#5, 0x1F#5]) ∧
    (∀ (s : State) (answers : List Answer) (rest : List Input),
      s.inputs = .command cw answers :: rest →
      cmdOp cw ∈ [0x00#5, 0x14#5, 0x15#5, 0x16#5, 0x17#5, 0x1D#5, 0x1E#5, 0x1F#5] →
        step s = .refused .reservedOpcode)

/-- Words written out in `95_test_vectors.md` (programs P1 to P5, V-REG-11 to V-REG-14) decode to what
stands beside them. -/
def Obligations.WrittenOutWordsDecode : Prop :=
  decodeCommand 0x530000000401#48 = .ok (.wrCp0 12#5 0x401#32) ∧
  decodeCommand 0x12400000003D#48 = .ok (.wrGpr 9#5 0x3D#32) ∧
  decodeCommand 0x4B8000000000#48 = .ok (.rdCp0 14#5) ∧
  decodeCommand 0x883000000024#48 = .ok (.raise 0x24#32 3#2) ∧
  decodeCommand 0x900000000000#48 = .ok .branchTest ∧
  decodeCommand 0xC80000000000#48 = .ok .hostReset ∧
  decodeCommand 0x180100000000#48 = .error .unusedFieldNonZero ∧
  decodeCommand 0xA00000000000#48 = .error .reservedOpcode ∧
  decodeCommand 0x180000000001#48 = .error .unusedFieldNonZero ∧
  decodeCommand 0x101000000000#48 = .error .unusedFieldNonZero ∧
  decodeInsn 0x4A180001#32 = .ok (.gteSpecial 0x4A180001#32) ∧
  decodeInsn 0x48000000#32 = .error .notGtePattern

/-- R90: a word is a geometry-coprocessor instruction iff its bits 31:25 are GTE_TOP7; its index is
`w[5:0]`; bits 24:6 are passed on whole. That this is `w & 0xFE000000 == 0x4A000000` rests on the default
of GTE_TOP7 (log 1, PRESUMED: R90 marks the value general knowledge). -/
def Obligations.GtePatternIsTheTopSevenBits : Prop :=
  ∀ w : Word,
    (decodeInsn w = .ok (.gteSpecial w) ↔ w.extractLsb' 25 7 = Config.gteTop7) ∧
    (w.extractLsb' 25 7 = Config.gteTop7 ↔ w &&& 0xFE000000#32 = 0x4A000000#32) ∧
    (∀ i, decodeInsn w = .ok i → i = .gteSpecial w) ∧
    (gteIndex w).toNat = w.toNat % 64

/-- From R89: `r<n>` with the digits of `n`, and the name of R20, is register `n`; the digits of `n`, and
SR, CAUSE, EPC and PRID, are cell `n`; the digits of a value, decimal or hex after `0x`, are the value;
the tokens of every command line are its command for every operand; and those of each of the seven
pseudo-commands are its expansion. How a line's text becomes tokens (separators, comments: `tokens`,
`parseLine`) is not said here. SR, CAUSE, EPC and PRID stand for the cells of log 1, and RAISE_INT's code is
IRQ_CODE. That RAISE is read with `bdt = 1` too is log 14's choice: R89 calls that value reserved. -/
def Obligations.CommandSyntaxReachesTheCommands : Prop :=
  (∀ n : RegNum, gprOperand ('r' :: Nat.toDigits 10 n.toNat) = some n ∧
    (∀ name ∈ gprNames[n.toNat]?, gprOperand name.toList = some n) ∧
    cp0Operand (Nat.toDigits 10 n.toNat) = some n) ∧
  (cp0Operand "SR".toList = some Config.cp0Sr ∧ cp0Operand "CAUSE".toList = some Config.cp0Cause ∧
    cp0Operand "EPC".toList = some Config.cp0Epc ∧ cp0Operand "PRID".toList = some Config.cp0Prid) ∧
  (∀ v : Word, fitted 32 (Nat.toDigits 10 v.toNat) = some v ∧
    fitted 32 ('0' :: 'x' :: Nat.toDigits 16 v.toNat) = some v) ∧
  (∀ d : Bdt, fitted 2 (Nat.toDigits 10 d.toNat) = some d) ∧
  (∀ (a v : List Char) (n : RegNum) (x : Word), gprOperand a = some n → fitted 32 v = some x →
    parseTokens [.word "RD_GPR".toList, .word a] = some (.rdGpr n) ∧
    parseTokens [.word "WR_GPR".toList, .word a, .comma, .word v] = some (.wrGpr n x)) ∧
  (∀ (a v : List Char) (n : RegNum) (x : Word), cp0Operand a = some n → fitted 32 v = some x →
    parseTokens [.word "RD_CP0".toList, .word a] = some (.rdCp0 n) ∧
    parseTokens [.word "WR_CP0".toList, .word a, .comma, .word v] = some (.wrCp0 n x)) ∧
  (∀ (v : List Char) (x : Word), fitted 32 v = some x →
    parseTokens [.word "WR_PC".toList, .word v] = some (.wrPc x) ∧
    parseTokens [.word "WR_HI".toList, .word v] = some (.wrHi x) ∧
    parseTokens [.word "WR_LO".toList, .word v] = some (.wrLo x) ∧
    parseTokens [.word "ADD_CYCLE".toList, .word v] = some (.addCycle x) ∧
    parseTokens [.word "WR_NEXT_EVENT".toList, .word v] = some (.wrNextEvent x) ∧
    parseTokens [.word "WR_NEXT_BASE".toList, .word v] = some (.wrNextBase x) ∧
    parseTokens [.word "WR_SR".toList, .word v] = some (.wrCp0 Config.cp0Sr x)) ∧
  (∀ (v d : List Char) (x : Word) (bdt : Bdt), fitted 32 v = some x → fitted 2 d = some bdt →
    parseTokens [.word "RAISE".toList, .word v, .comma, .word d] = some (.raise x bdt)) ∧
  (∀ i ∈ [Instr.rdPc, .rdHi, .rdLo, .rdCycle, .rdNextEvent, .rdNextBase, .branchTest, .resetState,
      .hostInit, .hostReset, .hostShutdown, .jumpTest, .bootRun],
    parseTokens [.word i.mnemonic.toList] = some i) ∧
  (parseTokens [.word "RD_SR".toList] = some (.rdCp0 Config.cp0Sr) ∧
    parseTokens [.word "RD_CAUSE".toList] = some (.rdCp0 Config.cp0Cause) ∧
    parseTokens [.word "RD_EPC".toList] = some (.rdCp0 Config.cp0Epc) ∧
    parseTokens [.word "RD_PRID".toList] = some (.rdCp0 Config.cp0Prid) ∧
    parseTokens [.word "RAISE_INT".toList] = some (.raise Config.irqCode 0#2) ∧
    parseTokens [.word "RAISE_SYS".toList] = some (.raise 0x20#32 0#2))

/-! ### The step (R80) -/

/-- R80: when the command word presented next decodes to `i`, the step is `exec` of `i` at the state in
which that input is taken and the answers that came with it stand ready. -/
def Obligations.StepPerformsTheDecodedCommand : Prop :=
  ∀ (s : State) (cw : CmdWord) (answers : List Answer) (rest : List Input) (i : Instr),
    s.inputs = .command cw answers :: rest → decodeCommand cw = .ok i →
      step s = exec i { s with inputs := rest, answers := answers }

/-- With nothing presented a step changes nothing, and a change of the surroundings touches no register
of the block and no output (logs 7, 9: the model's form of "between two commands"). -/
def Obligations.StepBetweenCommandsTouchesNoRegister : Prop :=
  (∀ s : State, s.inputs = [] → step s = .next s) ∧
  (∀ (s : State) (c : Change) (rest : List Input), s.inputs = .change c :: rest →
    ∃ t, step s = .next t ∧ t.inputs = rest ∧ t.x = s.x ∧ t.pc = s.pc ∧ t.hi = s.hi ∧ t.lo = s.lo ∧
      t.cycle = s.cycle ∧ t.cp0 = s.cp0 ∧ t.gte = s.gte ∧ t.nextEvent = s.nextEvent ∧
      t.nextBase = s.nextBase ∧ t.out = s.out ∧
      (∀ c', c = .cfg c' → t.cfg = c') ∧ (∀ q, c = .irq q → t.irqIn = q) ∧
      (∀ b, c = .backendInitOnce b → t.host.backendInitOnce = b))

/-- The word the dispatcher fetches runs as the instruction it decodes to: RAISE leaves in `gte` what
`exec` of that instruction leaves (R141, R142). -/
def Obligations.RaisePerformsTheWordAtPc : Prop :=
  ∀ (s : State) (code : Word) (bdt : Bdt) (i : Instr), s.Live → decodeInsn (s.fetch s.pc) = .ok i →
    ∃ t u, exec (.raise code bdt) s = .next t ∧ exec i s = .next u ∧ t.gte = u.gte

/-- The host's placement reaches every instruction (log 7): a command's word is performed by the next
step, and a geometry-coprocessor word is what the RAISE of the next step fetches, with HLE off. -/
def Obligations.WithFetchWordReachesTheInstruction : Prop :=
  ∀ (s : State) (i : Instr), i.wellFormed = true →
    (∀ cw, encode i = .command cw →
      step (s.withFetchWord 48 cw.toNat) = exec i { s with answers := [] }) ∧
    (∀ w, encode i = .insn w →
      ∃ u, step (s.withFetchWord 32 w.toNat) = exec (.raise 0#32 0#2) u ∧ u.fetch u.pc = w ∧
        u.cfg.hle = false ∧ u.host = s.host ∧ u.inputs = s.inputs)

/-- No command is refused once the block is live: no mode, mask or coprocessor bit and no operand value
turns one away (`10_state.md` R28, `60_exceptions.md` R234, R239; each command by its own rule). That RAISE
with `bdt = 1` is computed is log 14's choice between the two that the spec allows; that HOST_INIT is
performed on a live block is log 22's; that HOST_RESET and HOST_SHUTDOWN are performed on a block that
RESET_STATE made live with no HOST_INIT before it is log 13's (R264 asks the host for HOST_INIT first). -/
def Obligations.EveryCommandCompletesWhenLive : Prop :=
  ∀ (i : Instr) (s : State), s.Live → ∃ t, exec i s = .next t ∧ t.out.status = .ok

/-! ### Register access (`40_register_access.md`) -/

/-- R100: `rdata <- x[n]`, 0 when `n = 0`; reading changes nothing. -/
def Obligations.RdGprAnswersTheRegister : Prop :=
  ∀ (s : State) (n : RegNum), s.Live →
    exec (.rdGpr n) s = .next { s with
      out := Output.read (if n = 0#5 then 0#32 else s.x[n.toNat]'n.isLt) }

/-- R101: `if n != 0 then x[n] <- v`; nothing else moves. -/
def Obligations.WrGprWritesTheRegister : Prop :=
  ∀ (s : State) (n : RegNum) (v : Word), s.Live →
    exec (.wrGpr n v) s = .next { s with
      x := if n = 0#5 then s.x else s.x.set n.toNat v n.isLt, out := Output.ok }

/-- R21: `x[0]` reads as zero and a write to it is discarded; every other register reads back what was
written, and no other register moves. -/
def Obligations.RegisterZeroReadsZero : Prop :=
  ∀ (s : State) (m n : RegNum) (v : Word), s.Live →
    exec (.wrGpr 0#5 v) s = .next { s with out := Output.ok } ∧
    (∃ u, exec (.rdGpr 0#5) s = .next u ∧ u.out.rdata = some 0#32) ∧
    (∃ t u, exec (.wrGpr m v) s = .next t ∧ exec (.rdGpr n) t = .next u ∧
      u.out.rdata = some (if n = 0#5 then 0#32 else if n = m then v else s.readGpr n))

/-- R102, R104, R106, R110, R112, R113: each port answers its register, and reading changes nothing. -/
def Obligations.ReadPortsAnswerTheirRegister : Prop :=
  ∀ s : State, s.Live →
    exec .rdPc s = .next { s with out := Output.read s.pc } ∧
    exec .rdHi s = .next { s with out := Output.read s.hi } ∧
    exec .rdLo s = .next { s with out := Output.read s.lo } ∧
    exec .rdCycle s = .next { s with out := Output.read s.cycle } ∧
    exec .rdNextEvent s = .next { s with out := Output.read s.nextEvent } ∧
    exec .rdNextBase s = .next { s with out := Output.read s.nextBase }

/-- R103, R105, R107: `pc`, `hi` and `lo` take any 32-bit value unchanged, and nothing else moves. -/
def Obligations.WritePortsStoreTheValue : Prop :=
  ∀ (s : State) (v : Word), s.Live →
    exec (.wrPc v) s = .next { s with pc := v, out := Output.ok } ∧
    exec (.wrHi v) s = .next { s with hi := v, out := Output.ok } ∧
    exec (.wrLo v) s = .next { s with lo := v, out := Output.ok }

/-- R114, R115 and their corner cases: a target of 0 makes every later BRANCH_TEST call the timer update;
a baseline above `cycle` makes the elapsed count wrap to `2^32 + cycle - v`, so that the next BRANCH_TEST
calls the update unless `nextEvent` is larger still. -/
def Obligations.SchedulerPortsStoreTheValue : Prop :=
  ∀ (s : State) (v : Word), s.Live →
    exec (.wrNextEvent v) s = .next { s with nextEvent := v, out := Output.ok } ∧
    exec (.wrNextBase v) s = .next { s with nextBase := v, out := Output.ok } ∧
    (∀ cycle base : Word, v = 0#32 → timerDue cycle base v = true) ∧
    (v = 0#32 → ∀ u : State, u.Live → u.nextEvent = v →
      ∃ w, exec .branchTest u = .next w ∧ Event.timerUpdate ∈ w.out.events) ∧
    (s.cycle.toNat < v.toNat →
      (timerDue s.cycle v s.nextEvent = true ↔
        s.nextEvent.toNat ≤ 2 ^ 32 + s.cycle.toNat - v.toNat) ∧
      ∃ t w, exec (.wrNextBase v) s = .next t ∧ exec .branchTest t = .next w ∧
        (Event.timerUpdate ∈ w.out.events ↔
          s.nextEvent.toNat ≤ 2 ^ 32 + s.cycle.toNat - v.toNat))

/-- R108: `rdata <- cp0[n]` for every cell; reading changes nothing. -/
def Obligations.RdCp0AnswersTheCell : Prop :=
  ∀ (s : State) (n : RegNum), s.Live →
    exec (.rdCp0 n) s = .next { s with out := Output.read (s.cp0[n.toNat]'n.isLt) }

/-- R109: `cp0[n] <- v`, all 32 bits, for every cell; the cell reads back, the others stay; a later
exception takes its vector from the SR bit 22 written and keeps the Cause bits 10:8 written. -/
def Obligations.WrCp0WritesTheCell : Prop :=
  ∀ (s : State) (n : RegNum) (v : Word), s.Live →
    ∃ t, exec (.wrCp0 n v) s = .next t ∧
      t = { s with cp0 := s.cp0.set n.toNat v n.isLt, out := Output.ok } ∧
      (∀ k : RegNum, t.readCp0 k = if k = n then v else s.readCp0 k) ∧
      (∀ (code : Word) (bdt : Bdt), ∃ u, exec (.raise code bdt) t = .next u ∧
        (n = Config.cp0Sr → u.pc = if v.getLsbD 22 then Config.excVecRom else Config.excVecRam) ∧
        (n = Config.cp0Cause → ∀ k, 8 ≤ k → k ≤ 10 →
          u.cause.getLsbD k = (v.getLsbD k || code.getLsbD k)))

/-- R111: `cycle <- (cycle + n) mod 2^32`; `n = 0` leaves it; nothing else moves. -/
def Obligations.AddCycleAddsModulo : Prop :=
  ∀ (s : State) (n : Word), s.Live →
    ∃ t, exec (.addCycle n) s = .next t ∧
      t = { s with cycle := t.cycle, out := Output.ok } ∧
      t.cycle.toNat = (s.cycle.toNat + n.toNat) % 2 ^ 32 ∧ (n = 0#32 → t.cycle = s.cycle)

/-! ### The exception dispatcher (`41_exception_dispatch.md`) -/

/-- R140: the six steps, each from the values at the start of the command. -/
def Obligations.RaiseIsTheSixSteps : Prop :=
  ∀ (s : State) (code : Word) (bdt : Bdt), s.Live →
    ∃ t, exec (.raise code bdt) s = .next t ∧
      t.gte = (if s.cfg.hle = false ∧ (s.fetch s.pc).extractLsb' 25 7 = Config.gteTop7 ∧
          (s.fetch s.pc).extractLsb' 0 6 ∈ s.tables.gteEntries then
        Config.gteHandler ((s.fetch s.pc).extractLsb' 0 6) s.gte (s.fetch s.pc) else s.gte) ∧
      t.cause = ((bdt.setWidth 32 <<< 30) ||| (s.cause &&& 0x00000700#32) ||| code) ∧
      t.epc = (if bdt ≠ 0#2 then s.pc - 4#32 else s.pc) ∧
      t.pc = (if s.sr.getLsbD 22 then Config.excVecRom else Config.excVecRam) ∧
      t.sr = ((s.sr &&& ~~~0x0000003F#32) ||| ((s.sr &&& 0x0000000F#32) <<< 2))

/-- R144, bit by bit: bits 31:30 take `bdt`, bits 10:8 keep their old values, every other old bit is
discarded, and the code is ORed in. -/
def Obligations.RaiseCauseBits : Prop :=
  ∀ (s : State) (code : Word) (bdt : Bdt), s.Live →
    ∃ t, exec (.raise code bdt) s = .next t ∧
      ∀ k, k < 32 → t.cause.getLsbD k =
        (code.getLsbD k || (decide (k = 31) && bdt.getLsbD 1) || (decide (k = 30) && bdt.getLsbD 0) ||
          (decide (8 ≤ k ∧ k ≤ 10) && s.cause.getLsbD k))

/-- R145: EPC is `pc`, or `pc - 4` modulo 2^32 when the branch-delay indicator is not 0; it is read
before `pc` changes. -/
def Obligations.RaiseEpcIsTheReturnAddress : Prop :=
  ∀ (s : State) (code : Word) (bdt : Bdt), s.Live →
    ∃ t, exec (.raise code bdt) s = .next t ∧
      (bdt = 0#2 → t.epc = s.pc) ∧
      (bdt ≠ 0#2 → t.epc.toNat = (s.pc.toNat + (2 ^ 32 - 4)) % 2 ^ 32)

/-- R146: the vector depends on SR bit 22 alone: not on the code, the indicator, HLE, the fetched word or
any other bit. -/
def Obligations.RaiseVectorIsSelectedByBev : Prop :=
  ∀ (s : State) (code : Word) (bdt : Bdt), s.Live →
    ∃ t, exec (.raise code bdt) s = .next t ∧
      (s.sr.getLsbD 22 = true → t.pc = Config.excVecRom) ∧
      (s.sr.getLsbD 22 = false → t.pc = Config.excVecRam) ∧
      (∀ (s' : State) (code' : Word) (bdt' : Bdt), s'.Live → s'.sr.getLsbD 22 = s.sr.getLsbD 22 →
        ∃ t', exec (.raise code' bdt') s' = .next t' ∧ t'.pc = t.pc)

/-- R147, bit by bit: bits 31:6 stay, bits 5:2 are the old bits 3:0, bits 1:0 are 0. -/
def Obligations.RaisePushesTheStatusStack : Prop :=
  ∀ (s : State) (code : Word) (bdt : Bdt), s.Live →
    ∃ t, exec (.raise code bdt) s = .next t ∧
      ∀ k, k < 32 → t.sr.getLsbD k =
        if k < 2 then false else if k < 6 then s.sr.getLsbD (k - 2) else s.sr.getLsbD k

/-- R148, R149: RAISE completes for every code, every indicator and every state, with status ok, and
changes only `gte`, SR, Cause, EPC and `pc` (and the outputs). -/
def Obligations.RaiseNeverFailsAndChangesNothingElse : Prop :=
  ∀ (s : State) (code : Word) (bdt : Bdt), s.Live →
    ∃ t, exec (.raise code bdt) s = .next t ∧ t.out.status = .ok ∧ t.prid = s.prid ∧
      t = { s with gte := t.gte, cp0 := t.cp0, pc := t.pc, out := t.out } ∧
      (∀ k : RegNum, k ≠ Config.cp0Sr → k ≠ Config.cp0Cause → k ≠ Config.cp0Epc →
        t.readCp0 k = s.readCp0 k) ∧
      (∀ a : Word, t.readByte a = s.readByte a)

/-- R142: with HLE off, a word of the pattern whose table entry is non-empty is applied to `gte`, whatever
bits 24:6 hold; in every other case step 2 does nothing; it changes only `gte`. -/
def Obligations.GteSpecialCaseAppliesTheHandler : Prop :=
  ∀ (s : State) (w : Word), s.Live →
    (s.cfg.hle = false → w.extractLsb' 25 7 = Config.gteTop7 →
      w.extractLsb' 0 6 ∈ s.tables.gteEntries →
      exec (.gteSpecial w) s = .next { s with
        gte := Config.gteHandler (w.extractLsb' 0 6) s.gte w,
        out := Output.calls [.gteHandler (w.extractLsb' 0 6) w] }) ∧
    (s.cfg.hle = true ∨ w.extractLsb' 25 7 ≠ Config.gteTop7 ∨
        w.extractLsb' 0 6 ∉ s.tables.gteEntries →
      exec (.gteSpecial w) s = .next { s with out := Output.ok })

/-- R150: HLE changes only step 2: the same RAISE with HLE on gives the same state but for `gte`, which
it leaves, and the call list. That this list then holds the fetch and nothing else is the choice of log 17:
R141 says that with HLE on it cannot be observed whether the fetch is performed. -/
def Obligations.HleChangesOnlyTheSpecialCase : Prop :=
  ∀ (s : State) (code : Word) (bdt : Bdt), s.Live → s.cfg.hle = false →
    ∃ t u, exec (.raise code bdt) s = .next t ∧
      exec (.raise code bdt) { s with cfg := { s.cfg with hle := true } } = .next u ∧
      u = { t with gte := s.gte, cfg := { s.cfg with hle := true }, out := u.out } ∧
      u.out.events = [.fetch s.pc]

/-- R230: after one RAISE the interrupted context is in SR bits 3:2 and the one before in bits 5:4; a
second RAISE moves the first interrupted context to bits 5:4 and discards what was there. -/
def Obligations.SecondEntryMovesTheContext : Prop :=
  ∀ (s : State) (c1 c2 : Word) (d1 d2 : Bdt), s.Live →
    ∃ t u, exec (.raise c1 d1) s = .next t ∧ exec (.raise c2 d2) t = .next u ∧
      t.sr.extractLsb' 2 2 = s.sr.extractLsb' 0 2 ∧ t.sr.extractLsb' 4 2 = s.sr.extractLsb' 2 2 ∧
      u.sr.extractLsb' 4 2 = s.sr.extractLsb' 0 2 ∧ u.sr.extractLsb' 0 4 = 0#4

/-- R232: after a third RAISE nothing of the first interrupted program's context is left: two states that
differ in SR bits 5:0 alone have the same SR. The block raises nothing for this. -/
def Obligations.ThirdEntryLosesTheContext : Prop :=
  ∀ (s s' : State) (c1 c2 c3 : Word) (d1 d2 d3 : Bdt), s.Live → s'.Live →
    s.sr.extractLsb' 6 26 = s'.sr.extractLsb' 6 26 →
    ∃ t u v t' u' v', exec (.raise c1 d1) s = .next t ∧ exec (.raise c2 d2) t = .next u ∧
      exec (.raise c3 d3) u = .next v ∧ exec (.raise c1 d1) s' = .next t' ∧
      exec (.raise c2 d2) t' = .next u' ∧ exec (.raise c3 d3) u' = .next v' ∧ v.sr = v'.sr

/-! ### The event scheduler (`42_event_scheduler.md`) -/

/-- R170: the comparator, the update if it triggers, the evaluation of SR, Cause and `irqIn` as they then
stand, and at most one RAISE, whose effect is RAISE's own. -/
def Obligations.BranchTestIsTheFixedSequence : Prop :=
  ∀ s : State, s.Live →
    ∃ t u, exec .branchTest s = .next t ∧
      u = (if timerDue s.cycle s.nextBase s.nextEvent then (s.accept).timerUpdate else s.accept) ∧
      (interruptEvaluation u.tables.arbiter u.sr u.cause u.irqIn = none →
        t = { u with out := t.out }) ∧
      (∀ code bdt, interruptEvaluation u.tables.arbiter u.sr u.cause u.irqIn = some (code, bdt) →
        ∃ r, exec (.raise code bdt) u = .next r ∧ t = { r with out := t.out })

/-- R171: the comparator triggers iff `(cycle - nextBase) mod 2^32 >= nextEvent`, unsigned, equality
included; the update runs exactly then; a target of 0 always triggers. -/
def Obligations.ComparatorIsUnsignedModulo : Prop :=
  (∀ cycle base event : Word, timerDue cycle base event = true ↔
    event.toNat ≤ (cycle.toNat + (2 ^ 32 - base.toNat)) % 2 ^ 32) ∧
  (∀ cycle base : Word, timerDue cycle base 0#32 = true) ∧
  (∀ s : State, s.Live → ∃ t, exec .branchTest s = .next t ∧
    (Event.timerUpdate ∈ t.out.events ↔
      s.nextEvent.toNat ≤ (s.cycle.toNat + (2 ^ 32 - s.nextBase.toNat)) % 2 ^ 32))

/-- R175: BRANCH_TEST changes `cycle`, the general registers, `hi`, `lo` and `pc` only through the RAISE
it may perform; with no RAISE it changes at most `nextEvent` and `nextBase` (and, outside the block, the
interrupt request and the answers used). "With no RAISE" is written as no fetch in the call list, which
rests on the choice of log 17: the fetch of a RAISE is listed whatever HLE is. -/
def Obligations.BranchTestChangesOnlyTheScheduler : Prop :=
  ∀ s : State, s.Live →
    ∃ t, exec .branchTest s = .next t ∧ t.cycle = s.cycle ∧ t.x = s.x ∧ t.hi = s.hi ∧ t.lo = s.lo ∧
      t.mem = s.mem ∧ t.host = s.host ∧ t.cfg = s.cfg ∧ t.inputs = s.inputs ∧
      ((∀ a, Event.fetch a ∉ t.out.events) →
        t = { s with nextEvent := t.nextEvent, nextBase := t.nextBase, irqIn := t.irqIn,
                     answers := t.answers, draws := t.draws, out := t.out })

/-- R172: the update's results are a draw under no law: every `nextEvent`, `nextBase` and `irqIn` is the
result of some answer. -/
def Obligations.TimerUpdateAdmitsEveryDraw : Prop :=
  ∀ (s : State) (e b : Word) (q : IrqIn), s.Live →
    timerDue s.cycle s.nextBase s.nextEvent = true →
    ∃ (answers : List Answer) (t : State), exec .branchTest { s with answers := answers } = .next t ∧
      t.nextEvent = e ∧ t.nextBase = b ∧ t.irqIn = q

/-- R174: the default arbiter takes an interrupt iff one is pending and SR bits 0 and 10 are set, with
IRQ_CODE and indicator 0; then EPC is the `pc` at which the next block would have started (R176). -/
def Obligations.DefaultArbiterTakesTheInterrupt : Prop :=
  ∀ s : State, s.Live → s.tables.arbiter = .default →
    timerDue s.cycle s.nextBase s.nextEvent = false →
    ∃ t, exec .branchTest s = .next t ∧
      (s.irqIn.pending = true ∧ s.sr.getLsbD 0 = true ∧ s.sr.getLsbD 10 = true →
        t.cause = ((s.cause &&& 0x00000700#32) ||| Config.irqCode) ∧ t.epc = s.pc ∧
        t.sr.getLsbD 0 = false) ∧
      (¬(s.irqIn.pending = true ∧ s.sr.getLsbD 0 = true ∧ s.sr.getLsbD 10 = true) →
        t = { s with out := t.out })

/-! ### Reset (`70_reset_and_hazards.md`) -/

/-- R260: RESET_STATE, also as the first command ever; `nextEvent` and `nextBase` are not written. -/
def Obligations.ResetStateResetsTheBlock : Prop :=
  ∀ s : State, s.host.phase = .live ∨ s.host.phase = .unreset →
    exec .resetState s = .next { s with
      x := Vector.replicate 32 0#32, hi := 0#32, lo := 0#32, cycle := 0#32, gte := ⟨0⟩
      cp0 := ((Vector.replicate 32 0#32).set 12
        (if s.cfg.hle then (srReset ||| (1#32 <<< Config.srCu2Bit)) &&& ~~~(1#32 <<< Config.srBevBit)
         else srReset)).set 15 Config.pridReset
      pc := Config.bootVector
      host := { s.host with phase := .live }, out := Output.ok }

/-- R261: the reset values. SR has exactly the coprocessor-0, timing-status and, with HLE off, the
boot-exception-vector bit set, and with HLE on the geometry-coprocessor bit in its place; the mode is
kernel with interrupts disabled; `nextEvent` and `nextBase` are not written. The numbers behind the names
are the defaults (log 1). -/
def Obligations.ResetValuesWithAndWithoutHle : Prop :=
  ∀ s : State, s.host.phase = .live ∨ s.host.phase = .unreset →
    ∃ t, exec .resetState s = .next t ∧
      (∀ n, t.readGpr n = 0#32) ∧ t.pc = Config.bootVector ∧ t.hi = 0#32 ∧ t.lo = 0#32 ∧
      t.cycle = 0#32 ∧ t.cause = 0#32 ∧ t.epc = 0#32 ∧ t.prid = Config.pridReset ∧ t.gte = ⟨0⟩ ∧
      (∀ k, k < 32 → (t.sr.getLsbD k = true ↔
        k = Config.srCu0Bit ∨ k = Config.srTsBit ∨ (s.cfg.hle = false ∧ k = Config.srBevBit) ∨
          (s.cfg.hle = true ∧ k = Config.srCu2Bit))) ∧
      (∀ k : RegNum, k ≠ Config.cp0Sr → k ≠ Config.cp0Prid → t.readCp0 k = 0#32) ∧
      t.nextEvent = s.nextEvent ∧ t.nextBase = s.nextBase ∧ t.sr.extractLsb' 0 6 = 0#6

/-- `State.reset` is what RESET_STATE with HLE off leaves of the block, from any state in which it is
accepted (R260). -/
def Obligations.ResetIsTheStateResetStateLeaves : Prop :=
  ∀ s : State, s.host.phase = .live ∨ s.host.phase = .unreset → s.cfg.hle = false →
    exec .resetState s = .next { State.reset with
      nextEvent := s.nextEvent, nextBase := s.nextBase, host := { s.host with phase := .live },
      cfg := s.cfg, irqIn := s.irqIn, mem := s.mem, memEpoch := s.memEpoch, tables := s.tables,
      answers := s.answers, draws := s.draws, inputs := s.inputs }

/-- R262, R263: HOST_RESET makes its first five calls first and in order (what follows them is said with
HLE on and off in the two statements below), keeps every configuration input (the timing-fix value whatever
the firmware did to it), leaves the block live, and leaves the backend, the parameter tables and the inputs
still to come. That it completes before any HOST_INIT is log 13's choice, and that Mem.Reset replaces the
memory's contents once is log 5's. -/
def Obligations.HostResetKeepsTheConfiguration : Prop :=
  ∀ s : State, s.host.phase ≠ .shutDown →
    ∃ t, exec .hostReset s = .next t ∧
      [Event.memReset, .backendApplyConfig, .backendReset, .hwReset, .firmwareInit] <+: t.out.events ∧
      t.cfg = s.cfg ∧ t.host.savedTimingFix = s.cfg.timingFix ∧ t.Live ∧
      t.host.backend = s.host.backend ∧ t.host.backendInitOnce = s.host.backendInitOnce ∧
      t.tables = s.tables ∧ t.inputs = s.inputs ∧ t.memEpoch = s.memEpoch + 1

/-- R262 with HLE on: the installer finds the registers as RESET_STATE leaves them; the firmware boot is
never executed, the HLE boot state is installed exactly once, after the first five calls, and afterwards SR
has the geometry-coprocessor bit set and the boot-vector bit clear, whatever the installer writes. That the
peripheral reset and Firmware.Init leave the registers is log 16's reading; the phases are log 13's. -/
def Obligations.HostResetUnderHleInstallsTheBootState : Prop :=
  ∀ s : State, s.host.phase ≠ .shutDown → s.cfg.hle = true →
    ∃ t r, exec .hostReset s = .next t ∧
      exec .resetState (s.setHost { s.host with phase := .live }) = .next r ∧
      r.SameBlock s.accept.resetSequence.saveTimingFix ∧
      t = s.accept.resetSequence.saveTimingFix.setupHleBootState.setTimingFix s.cfg.timingFix ∧
      [Event.memReset, .backendApplyConfig, .backendReset, .hwReset, .firmwareInit,
        .setupHleBootState] <+: t.out.events ∧
      t.out.events.count .setupHleBootState = 1 ∧
      (∀ r, Event.executeBlock r ∉ t.out.events) ∧ t.host.bootState = s.host.bootState ∧
      t.host.bootCount = s.host.bootCount ∧ t.sr.getLsbD Config.srCu2Bit = true ∧
      t.sr.getLsbD Config.srBevBit = false

/-- R262, R263 with HLE off: the first five calls leave the registers as RESET_STATE leaves them, and the
firmware boot is run on that. Unless it ends exactly at the kernel entry under the bypass policy, the state
is what the boot left, with the timing-fix value restored, and neither the bypass nor the installer is
called. Otherwise the bypass is asked once, after the boot; if it does not apply, the registers are those
the boot left (log 16: the bypass writes none) and the installer is not called; if it applies, the installer
is called once, right after it, and leaves the two SR bits as the boot left them (log 15). The phases are
log 13's. -/
def Obligations.HostResetWithoutHleBootsTheFirmware : Prop :=
  ∀ s : State, s.host.phase ≠ .shutDown → s.cfg.hle = false →
    ∃ t b r, exec .hostReset s = .next t ∧ b = s.accept.resetSequence.saveTimingFix.bootRun ∧
      exec .resetState (s.setHost { s.host with phase := .live }) = .next r ∧
      r.SameBlock s.accept.resetSequence.saveTimingFix ∧
      [Event.memReset, .backendApplyConfig, .backendReset, .hwReset, .firmwareInit] <+: b.out.events ∧
      (b.pc ≠ Config.kernelEntry ∨ s.cfg.introPolicy = false →
        t = b.setTimingFix s.cfg.timingFix ∧ Event.tryIntroBypass ∉ t.out.events ∧
          Event.setupHleBootState ∉ t.out.events) ∧
      (b.pc = Config.kernelEntry → s.cfg.introPolicy = true →
        t.out.events.count .tryIntroBypass = 1 ∧
        (b.draw.1.flag = false → b.SameBlock t ∧
          t.out.events = b.out.events ++ [.tryIntroBypass] ∧
          Event.setupHleBootState ∉ t.out.events) ∧
        (b.draw.1.flag = true → t.out.events.count .setupHleBootState = 1 ∧
          b.out.events ++ [.tryIntroBypass, .setupHleBootState] <+: t.out.events ∧
          t.sr.getLsbD Config.srCu2Bit = b.sr.getLsbD Config.srCu2Bit ∧
          t.sr.getLsbD Config.srBevBit = b.sr.getLsbD Config.srBevBit))

/-! ### Host control (`43_host_control.md`) -/

/-- R190: a failed `Mem.Init()` is returned at once and the backend is not touched; otherwise
`backend.Init()` is called and its status returned iff `backendInitOnce` is set; exactly one backend is
active afterwards; no register of the block is written. That this is so in every state, on a live block
too, is the choice of log 22 (R35(a) asks the host for a full Reset when backends are switched). -/
def Obligations.HostInitReturnsTheStatus : Prop :=
  ∀ s : State, ∃ t, exec .hostInit s = .next t ∧
    (s.draw.1.status ≠ 0 →
      t.out.hostStatus = some s.draw.1.status ∧ t.out.events = [.memInit]) ∧
    (s.draw.1.status = 0 → s.host.backendInitOnce = true →
      t.out.hostStatus = some s.draw.2.draw.1.status ∧ t.out.events = [.memInit, .backendInit]) ∧
    (s.draw.1.status = 0 → s.host.backendInitOnce = false →
      t.out.hostStatus = some 0 ∧ t.out.events = [.memInit]) ∧
    t.host.backend ≠ none ∧ t.x = s.x ∧ t.pc = s.pc ∧ t.hi = s.hi ∧ t.lo = s.lo ∧
    t.cycle = s.cycle ∧ t.cp0 = s.cp0 ∧ t.gte = s.gte ∧ t.nextEvent = s.nextEvent ∧
    t.nextBase = s.nextBase ∧ t.cfg = s.cfg ∧ t.tables = s.tables ∧ t.inputs = s.inputs

/-- R192: the configured backend if the host offers it, the Interpreter always being offered; the
Interpreter otherwise, which R192 marks as the spec's own choice (D23). That the selection is made anew in
every state, on a live block with another backend active too, is the choice of log 22. -/
def Obligations.HostInitSelectsTheBackend : Prop :=
  ∀ s : State, ∃ t, exec .hostInit s = .next t ∧
    (s.cfg.backend = .interpreter ∨ s.cfg.backend ∈ s.tables.offers →
      t.host.backend = some s.cfg.backend) ∧
    (s.cfg.backend ≠ .interpreter → s.cfg.backend ∉ s.tables.offers →
      t.host.backend = some .interpreter)

/-- R193: the three calls in order; then every command but HOST_INIT is refused, a second HOST_SHUTDOWN
too (log 12), until a HOST_INIT whose status is 0 lets HOST_RESET in (and nothing else but HOST_INIT),
which makes the block live again. That HOST_RESET stays refused after a HOST_INIT with another status, and
that a first HOST_SHUTDOWN is performed before the first RESET_STATE, is log 13's reading of R190, R193 and
R264. -/
def Obligations.HostShutdownFreesTheBlock : Prop :=
  (∀ s : State, s.host.phase = .shutDown ∨ s.host.phase = .reinitialised →
    exec .hostShutdown s = .refused .afterShutdown) ∧
  (∀ s : State, s.host.phase = .live ∨ s.host.phase = .unreset → ∃ t, exec .hostShutdown s = .next t ∧
    t.out.events = [.firmwareShutdown, .backendShutdown, .memShutdown] ∧
    t.host.backend = none ∧ t.cfg = s.cfg ∧ t.tables = s.tables ∧ t.inputs = s.inputs ∧
    (∀ i, i ≠ .hostInit → exec i t = .refused .afterShutdown) ∧
    (∃ u, exec .hostInit t = .next u ∧
      (u.out.hostStatus = some 0 →
        (∃ v, exec .hostReset u = .next v ∧ v.Live) ∧
        (∀ i, i ≠ .hostInit → i ≠ .hostReset → exec i u = .refused .afterShutdown)) ∧
      (u.out.hostStatus ≠ some 0 → ∀ i, i ≠ .hostInit → exec i u = .refused .afterShutdown)))

/-- R264: before the first RESET_STATE every block command but RESET_STATE is refused, and RESET_STATE
makes the block live. That HOST_RESET is performed, and makes the block live, with no HOST_INIT before it is
log 13's choice: R264 asks the host for a HOST_INIT with status 0 first. -/
def Obligations.CommandsBeforeTheFirstResetAreRefused : Prop :=
  ∀ s : State, s.host.phase = .unreset →
    (∀ i, isBlockCommand i = true → i ≠ .resetState → exec i s = .refused .beforeFirstReset) ∧
    (∃ t, exec .resetState s = .next t ∧ t.Live) ∧ (∃ t, exec .hostReset s = .next t ∧ t.Live)

/-- R91's formula: the gate is decided by the low 21 bits of `pc` alone, and the call number is the low
byte of `x[CALLNUM_REG]`. The three gate addresses are the defaults of log 1; at `pc = 0xBFC000B0` the
formula is followed against R194's example and V-JT-4 (log 23). -/
def Obligations.GateAndCallNumber : Prop :=
  (∀ pc : Word,
    (gateOf pc = some .a ↔ pc.toNat % 2 ^ 21 = 0xA0) ∧
    (gateOf pc = some .b ↔ pc.toNat % 2 ^ 21 = 0xB0) ∧
    (gateOf pc = some .c ↔ pc.toNat % 2 ^ 21 = 0xC0)) ∧
  (∀ s : State, s.callNumber.toNat = (s.readGpr Config.callnumReg).toNat % 256)

/-- From R194's pseudocode: JUMP_TEST does nothing when HLE is on, when interception is off, at no gate, and
at an empty entry. What is a gate is R91's formula (log 23). -/
def Obligations.JumpTestIsInactiveWithoutAHandler : Prop :=
  ∀ s : State, s.Live →
    (s.cfg.hle = true ∨ s.cfg.fwIntercept = false ∨ gateOf s.pc = none ∨
      (∃ g, gateOf s.pc = some g ∧ (g, s.callNumber) ∉ s.tables.fwEntries)) →
    exec .jumpTest s = .next { s with out := Output.ok }

/-- R194, R196: at a gate with a non-empty entry the handler is called exactly once and its commands are
performed; the log event comes first, when logging is on and the number is not one of the table's two quiet
ones, and no log event is made otherwise. What is a gate is R91's formula (log 23). -/
def Obligations.JumpTestCallsTheHandlerOnce : Prop :=
  ∀ (s : State) (g : Gate), s.Live → s.cfg.hle = false → s.cfg.fwIntercept = true →
    gateOf s.pc = some g → (g, s.callNumber) ∈ s.tables.fwEntries →
    ∃ t, exec .jumpTest s = .next t ∧
      t.out.events.count (.fwHandler g s.callNumber) = 1 ∧
      (∃ m n : Byte, m ≠ n ∧ ∀ k, isQuiet s.tables.quiet g k = true ↔ k = m ∨ k = n) ∧
      (s.cfg.fwLog = true ∧ isQuiet s.tables.quiet g s.callNumber = false →
        [Event.log g s.callNumber, .fwHandler g s.callNumber] <+: t.out.events) ∧
      (¬(s.cfg.fwLog = true ∧ isQuiet s.tables.quiet g s.callNumber = false) →
        [Event.fwHandler g s.callNumber] <+: t.out.events) ∧
      (Event.log g s.callNumber ∈ t.out.events ↔
        s.cfg.fwLog = true ∧ isQuiet s.tables.quiet g s.callNumber = false) ∧
      t = { s.draw.2.handlerActs s.draw.1.acts with out := t.out } ∧
      (∀ v, s.draw.1.acts = [.command (.wrPc v)] → t = { s.draw.2 with pc := v, out := t.out })

/-- R92: `pc` is in the kernel segment iff `pc[31:23]` is the prefix. With the default KERNEL_PREFIX9
(log 1, PRESUMED) this is `pc & 0xFF800000 == 0x80000000`, the addresses 0x80000000 to 0x807FFFFF. -/
def Obligations.KernelSegmentIsTheTopNineBits : Prop :=
  ∀ pc : Word,
    (inKernelSegment pc = true ↔ pc.extractLsb' 23 9 = Config.kernelPrefix9) ∧
    (inKernelSegment pc = true ↔ pc &&& 0xFF800000#32 = 0x80000000#32) ∧
    (inKernelSegment pc = true ↔ 0x80000000 ≤ pc.toNat ∧ pc.toNat ≤ 0x807FFFFF)

/-- R198: if the `k`-th block is the first to leave `pc` in the kernel segment, `1 <= k <= BOOT_CAP`,
BOOT_RUN stops after exactly `k` blocks in `reached-kernel`; if none of the first BOOT_CAP does, it stops
after exactly BOOT_CAP blocks in `exhausted`. That `k = BOOT_CAP` counts as reached is the spec's own choice
(D25). Either way the state is the one the last block left, but for the boot record and the outputs. -/
def Obligations.BootStopsAtTheFirstKernelBlock : Prop :=
  ∀ s : State, s.Live →
    (∀ k, 1 ≤ k → k ≤ Config.bootCap →
      (∀ j, 1 ≤ j → j < k → inKernelSegment (State.bootBlock^[j] s.accept.bootStart).pc = false) →
      inKernelSegment (State.bootBlock^[k] s.accept.bootStart).pc = true →
      ∃ t, exec .bootRun s = .next t ∧ t.host.bootState = .reachedKernel ∧ t.host.bootCount = k ∧
        t = { State.bootBlock^[k] s.accept.bootStart with host := t.host, out := t.out }) ∧
    ((∀ j, 1 ≤ j → j ≤ Config.bootCap →
        inKernelSegment (State.bootBlock^[j] s.accept.bootStart).pc = false) →
      ∃ t, exec .bootRun s = .next t ∧ t.host.bootState = .exhausted ∧
        t.host.bootCount = Config.bootCap ∧
        t = { State.bootBlock^[Config.bootCap] s.accept.bootStart with
          host := t.host, out := t.out })

/-- R199: the diagnostic is emitted iff the boot ended exhausted or at an address other than the kernel
entry; it carries the block count and `pc`, and it changes no state: what the loop left stands, but for
the outputs. -/
def Obligations.BootDiagnosticIsEmittedOffTheKernelEntry : Prop :=
  ∀ s : State, s.Live →
    ∃ t, exec .bootRun s = .next t ∧
      (∀ (n : Nat) (a : Word), Event.nonStandardFirmware n a ∈ t.out.events ↔
        (t.host.bootState = .exhausted ∨ t.pc ≠ Config.kernelEntry) ∧ n = t.host.bootCount ∧ a = t.pc) ∧
      t = { State.bootLoop Config.bootCap s.accept.bootStart with out := t.out }

/-! ### Memory and the fetch (`20_memory.md`) -/

/-- A byte placed on the fetch port reads back and no other part of the state moves (R70: a later fetch sees
it). That every other listed byte stays, those of a mirror too, is log 5's choice. -/
def Obligations.MemoryChangeIsReadBack : Prop :=
  ∀ (s : State) (a : Word) (b : Byte) (rest : List Input), s.inputs = .change (.setByte a b) :: rest →
    ∃ t, step s = .next t ∧ t = { s with mem := t.mem, inputs := rest } ∧
      ∀ k : Word, t.readByte k = if k = a then some b else s.readByte k

/-- R61 to R63, R70 with the default byte order (log 1): at an aligned address every listed byte is a byte
of the word fetched, the lowest address in bits 7:0, whatever is listed beside it, and a byte that is not
listed is the byte of the oracle's word (log 5); a byte stored is seen in the word; a word stored is the
word fetched; at a misaligned address the word is the memory subsystem's own, a function of its contents and
the address. -/
def Obligations.FetchAssemblesTheListedBytes : Prop :=
  ∀ (s : State) (a : Word),
    (a.extractLsb' 0 2 = 0#2 → ∀ b0 b1 b2 b3 : Byte, s.readByte a = some b0 →
      s.readByte (a + 1#32) = some b1 → s.readByte (a + 2#32) = some b2 →
      s.readByte (a + 3#32) = some b3 → s.fetch a = b3 ++ b2 ++ b1 ++ b0) ∧
    (a.extractLsb' 0 2 = 0#2 → ∀ i, i < 4 →
      (∀ b, s.readByte (a + BitVec.ofNat 32 i) = some b → (s.fetch a).extractLsb' (8 * i) 8 = b) ∧
      (s.readByte (a + BitVec.ofNat 32 i) = none → (s.fetch a).extractLsb' (8 * i) 8 =
        (Config.fetchOracle s.memEpoch s.mem a).extractLsb' (8 * i) 8) ∧
      (∀ b, ((s.setByte (a + BitVec.ofNat 32 i) b).fetch a).extractLsb' (8 * i) 8 = b)) ∧
    (a.extractLsb' 0 2 = 0#2 → ∀ w : Word, (s.setWord a w).fetch a = w) ∧
    (a.extractLsb' 0 2 ≠ 0#2 → s.fetch a = Config.fetchOracle s.memEpoch s.mem a)

/-! ### Rules of the whole machine -/

/-- From every state that meets the invariant a step leads to one that meets it: memory stays in
canonical form, the cell of `x[0]` stays zero (R21), the boot record (R198) and the backend (R192, R35(a))
stay legal, and the status of a completed command is ok. -/
def Obligations.StepKeepsTheInvariant : Prop :=
  ∀ s t : State, s.Inv → step s = .next t → t.Inv

/-- The state after reset meets the invariant. -/
def Obligations.ResetMeetsTheInvariant : Prop := State.reset.Inv

/-- `10_state.md` R26, R35(d): among the block commands, only ADD_CYCLE and RESET_STATE change the cycle
counter. -/
def Obligations.OnlyAddCycleAndResetMoveTheCounter : Prop :=
  ∀ (i : Instr) (s t : State), isBlockCommand i = true → exec i s = .next t →
    (∀ n, i ≠ .addCycle n) → i ≠ .resetState → t.cycle = s.cycle

/-- `10_state.md` R35(c): among the block commands, only RESET_STATE and WR_CP0 write SR bit 22. -/
def Obligations.OnlyResetAndWrCp0WriteBev : Prop :=
  ∀ (i : Instr) (s t : State), isBlockCommand i = true → exec i s = .next t →
    (∀ v, i ≠ .wrCp0 Config.cp0Sr v) → i ≠ .resetState →
    t.sr.getLsbD Config.srBevBit = s.sr.getLsbD Config.srBevBit

/-- `10_state.md` R24: the block changes `pc` only by reset (to BOOT_VECTOR), by an exception (to one of
the two vectors) and by WR_PC (to the value given). -/
def Obligations.PcChangesInThreePlaces : Prop :=
  ∀ (i : Instr) (s t : State), isBlockCommand i = true → exec i s = .next t →
    t.pc = s.pc ∨ (i = .resetState ∧ t.pc = Config.bootVector) ∨ i = .wrPc t.pc ∨
    ((i = .branchTest ∨ ∃ c d, i = .raise c d) ∧
      (t.pc = Config.excVecRom ∨ t.pc = Config.excVecRam))

/-- `10_state.md` R22: the dispatcher and the scheduler neither read nor write a general register: from
states that differ in the general registers alone, RAISE and BRANCH_TEST lead to states that differ in
them alone. -/
def Obligations.ExceptionsDoNotSeeTheGeneralRegisters : Prop :=
  ∀ (s : State) (x : Vector Word 32) (code : Word) (bdt : Bdt), s.Live →
    (∃ t, exec (.raise code bdt) s = .next t ∧
      exec (.raise code bdt) { s with x := x } = .next { t with x := x }) ∧
    (∃ t, exec .branchTest s = .next t ∧
      exec .branchTest { s with x := x } = .next { t with x := x })
end

