-- ==== Sys2Proof/Laws/State.lean ====
section
/-!
SUPPORT. One lemma per field per update of State, so that no later proof unfolds a record update.
-/
namespace Sys2Proof.Machine.State

variable (s : State)

/-! ### `accept` -/
@[simp] theorem accept_x : (s.accept).x = s.x := rfl
@[simp] theorem accept_pc : (s.accept).pc = s.pc := rfl
@[simp] theorem accept_hi : (s.accept).hi = s.hi := rfl
@[simp] theorem accept_lo : (s.accept).lo = s.lo := rfl
@[simp] theorem accept_cycle : (s.accept).cycle = s.cycle := rfl
@[simp] theorem accept_cp0 : (s.accept).cp0 = s.cp0 := rfl
@[simp] theorem accept_gte : (s.accept).gte = s.gte := rfl
@[simp] theorem accept_nextEvent : (s.accept).nextEvent = s.nextEvent := rfl
@[simp] theorem accept_nextBase : (s.accept).nextBase = s.nextBase := rfl
@[simp] theorem accept_host : (s.accept).host = s.host := rfl
@[simp] theorem accept_cfg : (s.accept).cfg = s.cfg := rfl
@[simp] theorem accept_irqIn : (s.accept).irqIn = s.irqIn := rfl
@[simp] theorem accept_mem : (s.accept).mem = s.mem := rfl
@[simp] theorem accept_memEpoch : (s.accept).memEpoch = s.memEpoch := rfl
@[simp] theorem accept_tables : (s.accept).tables = s.tables := rfl
@[simp] theorem accept_answers : (s.accept).answers = s.answers := rfl
@[simp] theorem accept_draws : (s.accept).draws = s.draws := rfl
@[simp] theorem accept_inputs : (s.accept).inputs = s.inputs := rfl
@[simp] theorem accept_out : (s.accept).out = Output.ok := rfl
@[simp] theorem accept_readCp0 (k : RegNum) : (s.accept).readCp0 k = s.readCp0 k := rfl
@[simp] theorem accept_sr : (s.accept).sr = s.sr := rfl
@[simp] theorem accept_cause : (s.accept).cause = s.cause := rfl
@[simp] theorem accept_epc : (s.accept).epc = s.epc := rfl
@[simp] theorem accept_prid : (s.accept).prid = s.prid := rfl
@[simp] theorem accept_readGpr (k : RegNum) : (s.accept).readGpr k = s.readGpr k := rfl
@[simp] theorem accept_readByte (k : Word) : (s.accept).readByte k = s.readByte k := rfl
@[simp] theorem accept_fetch (k : Word) : (s.accept).fetch k = s.fetch k := rfl

/-! ### `setRdata` -/
@[simp] theorem setRdata_x (v : Word) : (s.setRdata v).x = s.x := rfl
@[simp] theorem setRdata_pc (v : Word) : (s.setRdata v).pc = s.pc := rfl
@[simp] theorem setRdata_hi (v : Word) : (s.setRdata v).hi = s.hi := rfl
@[simp] theorem setRdata_lo (v : Word) : (s.setRdata v).lo = s.lo := rfl
@[simp] theorem setRdata_cycle (v : Word) : (s.setRdata v).cycle = s.cycle := rfl
@[simp] theorem setRdata_cp0 (v : Word) : (s.setRdata v).cp0 = s.cp0 := rfl
@[simp] theorem setRdata_gte (v : Word) : (s.setRdata v).gte = s.gte := rfl
@[simp] theorem setRdata_nextEvent (v : Word) : (s.setRdata v).nextEvent = s.nextEvent := rfl
@[simp] theorem setRdata_nextBase (v : Word) : (s.setRdata v).nextBase = s.nextBase := rfl
@[simp] theorem setRdata_host (v : Word) : (s.setRdata v).host = s.host := rfl
@[simp] theorem setRdata_cfg (v : Word) : (s.setRdata v).cfg = s.cfg := rfl
@[simp] theorem setRdata_irqIn (v : Word) : (s.setRdata v).irqIn = s.irqIn := rfl
@[simp] theorem setRdata_mem (v : Word) : (s.setRdata v).mem = s.mem := rfl
@[simp] theorem setRdata_memEpoch (v : Word) : (s.setRdata v).memEpoch = s.memEpoch := rfl
@[simp] theorem setRdata_tables (v : Word) : (s.setRdata v).tables = s.tables := rfl
@[simp] theorem setRdata_answers (v : Word) : (s.setRdata v).answers = s.answers := rfl
@[simp] theorem setRdata_draws (v : Word) : (s.setRdata v).draws = s.draws := rfl
@[simp] theorem setRdata_inputs (v : Word) : (s.setRdata v).inputs = s.inputs := rfl
@[simp] theorem setRdata_out (v : Word) : (s.setRdata v).out = { s.out with rdata := some v } := rfl
@[simp] theorem setRdata_readCp0 (v : Word) (k : RegNum) : (s.setRdata v).readCp0 k = s.readCp0 k := rfl
@[simp] theorem setRdata_sr (v : Word) : (s.setRdata v).sr = s.sr := rfl
@[simp] theorem setRdata_cause (v : Word) : (s.setRdata v).cause = s.cause := rfl
@[simp] theorem setRdata_epc (v : Word) : (s.setRdata v).epc = s.epc := rfl
@[simp] theorem setRdata_prid (v : Word) : (s.setRdata v).prid = s.prid := rfl
@[simp] theorem setRdata_readGpr (v : Word) (k : RegNum) : (s.setRdata v).readGpr k = s.readGpr k := rfl
@[simp] theorem setRdata_readByte (v : Word) (k : Word) : (s.setRdata v).readByte k = s.readByte k := rfl
@[simp] theorem setRdata_fetch (v : Word) (k : Word) : (s.setRdata v).fetch k = s.fetch k := rfl

/-! ### `setHostStatus` -/
@[simp] theorem setHostStatus_x (v : Int) : (s.setHostStatus v).x = s.x := rfl
@[simp] theorem setHostStatus_pc (v : Int) : (s.setHostStatus v).pc = s.pc := rfl
@[simp] theorem setHostStatus_hi (v : Int) : (s.setHostStatus v).hi = s.hi := rfl
@[simp] theorem setHostStatus_lo (v : Int) : (s.setHostStatus v).lo = s.lo := rfl
@[simp] theorem setHostStatus_cycle (v : Int) : (s.setHostStatus v).cycle = s.cycle := rfl
@[simp] theorem setHostStatus_cp0 (v : Int) : (s.setHostStatus v).cp0 = s.cp0 := rfl
@[simp] theorem setHostStatus_gte (v : Int) : (s.setHostStatus v).gte = s.gte := rfl
@[simp] theorem setHostStatus_nextEvent (v : Int) : (s.setHostStatus v).nextEvent = s.nextEvent := rfl
@[simp] theorem setHostStatus_nextBase (v : Int) : (s.setHostStatus v).nextBase = s.nextBase := rfl
@[simp] theorem setHostStatus_host (v : Int) : (s.setHostStatus v).host = s.host := rfl
@[simp] theorem setHostStatus_cfg (v : Int) : (s.setHostStatus v).cfg = s.cfg := rfl
@[simp] theorem setHostStatus_irqIn (v : Int) : (s.setHostStatus v).irqIn = s.irqIn := rfl
@[simp] theorem setHostStatus_mem (v : Int) : (s.setHostStatus v).mem = s.mem := rfl
@[simp] theorem setHostStatus_memEpoch (v : Int) : (s.setHostStatus v).memEpoch = s.memEpoch := rfl
@[simp] theorem setHostStatus_tables (v : Int) : (s.setHostStatus v).tables = s.tables := rfl
@[simp] theorem setHostStatus_answers (v : Int) : (s.setHostStatus v).answers = s.answers := rfl
@[simp] theorem setHostStatus_draws (v : Int) : (s.setHostStatus v).draws = s.draws := rfl
@[simp] theorem setHostStatus_inputs (v : Int) : (s.setHostStatus v).inputs = s.inputs := rfl
@[simp] theorem setHostStatus_out (v : Int) : (s.setHostStatus v).out = { s.out with hostStatus := some v } := rfl
@[simp] theorem setHostStatus_readCp0 (v : Int) (k : RegNum) : (s.setHostStatus v).readCp0 k = s.readCp0 k := rfl
@[simp] theorem setHostStatus_sr (v : Int) : (s.setHostStatus v).sr = s.sr := rfl
@[simp] theorem setHostStatus_cause (v : Int) : (s.setHostStatus v).cause = s.cause := rfl
@[simp] theorem setHostStatus_epc (v : Int) : (s.setHostStatus v).epc = s.epc := rfl
@[simp] theorem setHostStatus_prid (v : Int) : (s.setHostStatus v).prid = s.prid := rfl
@[simp] theorem setHostStatus_readGpr (v : Int) (k : RegNum) : (s.setHostStatus v).readGpr k = s.readGpr k := rfl
@[simp] theorem setHostStatus_readByte (v : Int) (k : Word) : (s.setHostStatus v).readByte k = s.readByte k := rfl
@[simp] theorem setHostStatus_fetch (v : Int) (k : Word) : (s.setHostStatus v).fetch k = s.fetch k := rfl

/-! ### `emit` -/
@[simp] theorem emit_x (e : Event) : (s.emit e).x = s.x := rfl
@[simp] theorem emit_pc (e : Event) : (s.emit e).pc = s.pc := rfl
@[simp] theorem emit_hi (e : Event) : (s.emit e).hi = s.hi := rfl
@[simp] theorem emit_lo (e : Event) : (s.emit e).lo = s.lo := rfl
@[simp] theorem emit_cycle (e : Event) : (s.emit e).cycle = s.cycle := rfl
@[simp] theorem emit_cp0 (e : Event) : (s.emit e).cp0 = s.cp0 := rfl
@[simp] theorem emit_gte (e : Event) : (s.emit e).gte = s.gte := rfl
@[simp] theorem emit_nextEvent (e : Event) : (s.emit e).nextEvent = s.nextEvent := rfl
@[simp] theorem emit_nextBase (e : Event) : (s.emit e).nextBase = s.nextBase := rfl
@[simp] theorem emit_host (e : Event) : (s.emit e).host = s.host := rfl
@[simp] theorem emit_cfg (e : Event) : (s.emit e).cfg = s.cfg := rfl
@[simp] theorem emit_irqIn (e : Event) : (s.emit e).irqIn = s.irqIn := rfl
@[simp] theorem emit_mem (e : Event) : (s.emit e).mem = s.mem := rfl
@[simp] theorem emit_memEpoch (e : Event) : (s.emit e).memEpoch = s.memEpoch := rfl
@[simp] theorem emit_tables (e : Event) : (s.emit e).tables = s.tables := rfl
@[simp] theorem emit_answers (e : Event) : (s.emit e).answers = s.answers := rfl
@[simp] theorem emit_draws (e : Event) : (s.emit e).draws = s.draws := rfl
@[simp] theorem emit_inputs (e : Event) : (s.emit e).inputs = s.inputs := rfl
@[simp] theorem emit_out (e : Event) : (s.emit e).out = { s.out with events := s.out.events ++ [e] } := rfl
@[simp] theorem emit_readCp0 (e : Event) (k : RegNum) : (s.emit e).readCp0 k = s.readCp0 k := rfl
@[simp] theorem emit_sr (e : Event) : (s.emit e).sr = s.sr := rfl
@[simp] theorem emit_cause (e : Event) : (s.emit e).cause = s.cause := rfl
@[simp] theorem emit_epc (e : Event) : (s.emit e).epc = s.epc := rfl
@[simp] theorem emit_prid (e : Event) : (s.emit e).prid = s.prid := rfl
@[simp] theorem emit_readGpr (e : Event) (k : RegNum) : (s.emit e).readGpr k = s.readGpr k := rfl
@[simp] theorem emit_readByte (e : Event) (k : Word) : (s.emit e).readByte k = s.readByte k := rfl
@[simp] theorem emit_fetch (e : Event) (k : Word) : (s.emit e).fetch k = s.fetch k := rfl

/-! ### `setPc` -/
@[simp] theorem setPc_x (v : Word) : (s.setPc v).x = s.x := rfl
@[simp] theorem setPc_pc (v : Word) : (s.setPc v).pc = v := rfl
@[simp] theorem setPc_hi (v : Word) : (s.setPc v).hi = s.hi := rfl
@[simp] theorem setPc_lo (v : Word) : (s.setPc v).lo = s.lo := rfl
@[simp] theorem setPc_cycle (v : Word) : (s.setPc v).cycle = s.cycle := rfl
@[simp] theorem setPc_cp0 (v : Word) : (s.setPc v).cp0 = s.cp0 := rfl
@[simp] theorem setPc_gte (v : Word) : (s.setPc v).gte = s.gte := rfl
@[simp] theorem setPc_nextEvent (v : Word) : (s.setPc v).nextEvent = s.nextEvent := rfl
@[simp] theorem setPc_nextBase (v : Word) : (s.setPc v).nextBase = s.nextBase := rfl
@[simp] theorem setPc_host (v : Word) : (s.setPc v).host = s.host := rfl
@[simp] theorem setPc_cfg (v : Word) : (s.setPc v).cfg = s.cfg := rfl
@[simp] theorem setPc_irqIn (v : Word) : (s.setPc v).irqIn = s.irqIn := rfl
@[simp] theorem setPc_mem (v : Word) : (s.setPc v).mem = s.mem := rfl
@[simp] theorem setPc_memEpoch (v : Word) : (s.setPc v).memEpoch = s.memEpoch := rfl
@[simp] theorem setPc_tables (v : Word) : (s.setPc v).tables = s.tables := rfl
@[simp] theorem setPc_answers (v : Word) : (s.setPc v).answers = s.answers := rfl
@[simp] theorem setPc_draws (v : Word) : (s.setPc v).draws = s.draws := rfl
@[simp] theorem setPc_inputs (v : Word) : (s.setPc v).inputs = s.inputs := rfl
@[simp] theorem setPc_out (v : Word) : (s.setPc v).out = s.out := rfl
@[simp] theorem setPc_readCp0 (v : Word) (k : RegNum) : (s.setPc v).readCp0 k = s.readCp0 k := rfl
@[simp] theorem setPc_sr (v : Word) : (s.setPc v).sr = s.sr := rfl
@[simp] theorem setPc_cause (v : Word) : (s.setPc v).cause = s.cause := rfl
@[simp] theorem setPc_epc (v : Word) : (s.setPc v).epc = s.epc := rfl
@[simp] theorem setPc_prid (v : Word) : (s.setPc v).prid = s.prid := rfl
@[simp] theorem setPc_readGpr (v : Word) (k : RegNum) : (s.setPc v).readGpr k = s.readGpr k := rfl
@[simp] theorem setPc_readByte (v : Word) (k : Word) : (s.setPc v).readByte k = s.readByte k := rfl
@[simp] theorem setPc_fetch (v : Word) (k : Word) : (s.setPc v).fetch k = s.fetch k := rfl

/-! ### `setHi` -/
@[simp] theorem setHi_x (v : Word) : (s.setHi v).x = s.x := rfl
@[simp] theorem setHi_pc (v : Word) : (s.setHi v).pc = s.pc := rfl
@[simp] theorem setHi_hi (v : Word) : (s.setHi v).hi = v := rfl
@[simp] theorem setHi_lo (v : Word) : (s.setHi v).lo = s.lo := rfl
@[simp] theorem setHi_cycle (v : Word) : (s.setHi v).cycle = s.cycle := rfl
@[simp] theorem setHi_cp0 (v : Word) : (s.setHi v).cp0 = s.cp0 := rfl
@[simp] theorem setHi_gte (v : Word) : (s.setHi v).gte = s.gte := rfl
@[simp] theorem setHi_nextEvent (v : Word) : (s.setHi v).nextEvent = s.nextEvent := rfl
@[simp] theorem setHi_nextBase (v : Word) : (s.setHi v).nextBase = s.nextBase := rfl
@[simp] theorem setHi_host (v : Word) : (s.setHi v).host = s.host := rfl
@[simp] theorem setHi_cfg (v : Word) : (s.setHi v).cfg = s.cfg := rfl
@[simp] theorem setHi_irqIn (v : Word) : (s.setHi v).irqIn = s.irqIn := rfl
@[simp] theorem setHi_mem (v : Word) : (s.setHi v).mem = s.mem := rfl
@[simp] theorem setHi_memEpoch (v : Word) : (s.setHi v).memEpoch = s.memEpoch := rfl
@[simp] theorem setHi_tables (v : Word) : (s.setHi v).tables = s.tables := rfl
@[simp] theorem setHi_answers (v : Word) : (s.setHi v).answers = s.answers := rfl
@[simp] theorem setHi_draws (v : Word) : (s.setHi v).draws = s.draws := rfl
@[simp] theorem setHi_inputs (v : Word) : (s.setHi v).inputs = s.inputs := rfl
@[simp] theorem setHi_out (v : Word) : (s.setHi v).out = s.out := rfl
@[simp] theorem setHi_readCp0 (v : Word) (k : RegNum) : (s.setHi v).readCp0 k = s.readCp0 k := rfl
@[simp] theorem setHi_sr (v : Word) : (s.setHi v).sr = s.sr := rfl
@[simp] theorem setHi_cause (v : Word) : (s.setHi v).cause = s.cause := rfl
@[simp] theorem setHi_epc (v : Word) : (s.setHi v).epc = s.epc := rfl
@[simp] theorem setHi_prid (v : Word) : (s.setHi v).prid = s.prid := rfl
@[simp] theorem setHi_readGpr (v : Word) (k : RegNum) : (s.setHi v).readGpr k = s.readGpr k := rfl
@[simp] theorem setHi_readByte (v : Word) (k : Word) : (s.setHi v).readByte k = s.readByte k := rfl
@[simp] theorem setHi_fetch (v : Word) (k : Word) : (s.setHi v).fetch k = s.fetch k := rfl

/-! ### `setLo` -/
@[simp] theorem setLo_x (v : Word) : (s.setLo v).x = s.x := rfl
@[simp] theorem setLo_pc (v : Word) : (s.setLo v).pc = s.pc := rfl
@[simp] theorem setLo_hi (v : Word) : (s.setLo v).hi = s.hi := rfl
@[simp] theorem setLo_lo (v : Word) : (s.setLo v).lo = v := rfl
@[simp] theorem setLo_cycle (v : Word) : (s.setLo v).cycle = s.cycle := rfl
@[simp] theorem setLo_cp0 (v : Word) : (s.setLo v).cp0 = s.cp0 := rfl
@[simp] theorem setLo_gte (v : Word) : (s.setLo v).gte = s.gte := rfl
@[simp] theorem setLo_nextEvent (v : Word) : (s.setLo v).nextEvent = s.nextEvent := rfl
@[simp] theorem setLo_nextBase (v : Word) : (s.setLo v).nextBase = s.nextBase := rfl
@[simp] theorem setLo_host (v : Word) : (s.setLo v).host = s.host := rfl
@[simp] theorem setLo_cfg (v : Word) : (s.setLo v).cfg = s.cfg := rfl
@[simp] theorem setLo_irqIn (v : Word) : (s.setLo v).irqIn = s.irqIn := rfl
@[simp] theorem setLo_mem (v : Word) : (s.setLo v).mem = s.mem := rfl
@[simp] theorem setLo_memEpoch (v : Word) : (s.setLo v).memEpoch = s.memEpoch := rfl
@[simp] theorem setLo_tables (v : Word) : (s.setLo v).tables = s.tables := rfl
@[simp] theorem setLo_answers (v : Word) : (s.setLo v).answers = s.answers := rfl
@[simp] theorem setLo_draws (v : Word) : (s.setLo v).draws = s.draws := rfl
@[simp] theorem setLo_inputs (v : Word) : (s.setLo v).inputs = s.inputs := rfl
@[simp] theorem setLo_out (v : Word) : (s.setLo v).out = s.out := rfl
@[simp] theorem setLo_readCp0 (v : Word) (k : RegNum) : (s.setLo v).readCp0 k = s.readCp0 k := rfl
@[simp] theorem setLo_sr (v : Word) : (s.setLo v).sr = s.sr := rfl
@[simp] theorem setLo_cause (v : Word) : (s.setLo v).cause = s.cause := rfl
@[simp] theorem setLo_epc (v : Word) : (s.setLo v).epc = s.epc := rfl
@[simp] theorem setLo_prid (v : Word) : (s.setLo v).prid = s.prid := rfl
@[simp] theorem setLo_readGpr (v : Word) (k : RegNum) : (s.setLo v).readGpr k = s.readGpr k := rfl
@[simp] theorem setLo_readByte (v : Word) (k : Word) : (s.setLo v).readByte k = s.readByte k := rfl
@[simp] theorem setLo_fetch (v : Word) (k : Word) : (s.setLo v).fetch k = s.fetch k := rfl

/-! ### `setCycle` -/
@[simp] theorem setCycle_x (v : Word) : (s.setCycle v).x = s.x := rfl
@[simp] theorem setCycle_pc (v : Word) : (s.setCycle v).pc = s.pc := rfl
@[simp] theorem setCycle_hi (v : Word) : (s.setCycle v).hi = s.hi := rfl
@[simp] theorem setCycle_lo (v : Word) : (s.setCycle v).lo = s.lo := rfl
@[simp] theorem setCycle_cycle (v : Word) : (s.setCycle v).cycle = v := rfl
@[simp] theorem setCycle_cp0 (v : Word) : (s.setCycle v).cp0 = s.cp0 := rfl
@[simp] theorem setCycle_gte (v : Word) : (s.setCycle v).gte = s.gte := rfl
@[simp] theorem setCycle_nextEvent (v : Word) : (s.setCycle v).nextEvent = s.nextEvent := rfl
@[simp] theorem setCycle_nextBase (v : Word) : (s.setCycle v).nextBase = s.nextBase := rfl
@[simp] theorem setCycle_host (v : Word) : (s.setCycle v).host = s.host := rfl
@[simp] theorem setCycle_cfg (v : Word) : (s.setCycle v).cfg = s.cfg := rfl
@[simp] theorem setCycle_irqIn (v : Word) : (s.setCycle v).irqIn = s.irqIn := rfl
@[simp] theorem setCycle_mem (v : Word) : (s.setCycle v).mem = s.mem := rfl
@[simp] theorem setCycle_memEpoch (v : Word) : (s.setCycle v).memEpoch = s.memEpoch := rfl
@[simp] theorem setCycle_tables (v : Word) : (s.setCycle v).tables = s.tables := rfl
@[simp] theorem setCycle_answers (v : Word) : (s.setCycle v).answers = s.answers := rfl
@[simp] theorem setCycle_draws (v : Word) : (s.setCycle v).draws = s.draws := rfl
@[simp] theorem setCycle_inputs (v : Word) : (s.setCycle v).inputs = s.inputs := rfl
@[simp] theorem setCycle_out (v : Word) : (s.setCycle v).out = s.out := rfl
@[simp] theorem setCycle_readCp0 (v : Word) (k : RegNum) : (s.setCycle v).readCp0 k = s.readCp0 k := rfl
@[simp] theorem setCycle_sr (v : Word) : (s.setCycle v).sr = s.sr := rfl
@[simp] theorem setCycle_cause (v : Word) : (s.setCycle v).cause = s.cause := rfl
@[simp] theorem setCycle_epc (v : Word) : (s.setCycle v).epc = s.epc := rfl
@[simp] theorem setCycle_prid (v : Word) : (s.setCycle v).prid = s.prid := rfl
@[simp] theorem setCycle_readGpr (v : Word) (k : RegNum) : (s.setCycle v).readGpr k = s.readGpr k := rfl
@[simp] theorem setCycle_readByte (v : Word) (k : Word) : (s.setCycle v).readByte k = s.readByte k := rfl
@[simp] theorem setCycle_fetch (v : Word) (k : Word) : (s.setCycle v).fetch k = s.fetch k := rfl

/-! ### `setGte` -/
@[simp] theorem setGte_x (g : GteRegs) : (s.setGte g).x = s.x := rfl
@[simp] theorem setGte_pc (g : GteRegs) : (s.setGte g).pc = s.pc := rfl
@[simp] theorem setGte_hi (g : GteRegs) : (s.setGte g).hi = s.hi := rfl
@[simp] theorem setGte_lo (g : GteRegs) : (s.setGte g).lo = s.lo := rfl
@[simp] theorem setGte_cycle (g : GteRegs) : (s.setGte g).cycle = s.cycle := rfl
@[simp] theorem setGte_cp0 (g : GteRegs) : (s.setGte g).cp0 = s.cp0 := rfl
@[simp] theorem setGte_gte (g : GteRegs) : (s.setGte g).gte = g := rfl
@[simp] theorem setGte_nextEvent (g : GteRegs) : (s.setGte g).nextEvent = s.nextEvent := rfl
@[simp] theorem setGte_nextBase (g : GteRegs) : (s.setGte g).nextBase = s.nextBase := rfl
@[simp] theorem setGte_host (g : GteRegs) : (s.setGte g).host = s.host := rfl
@[simp] theorem setGte_cfg (g : GteRegs) : (s.setGte g).cfg = s.cfg := rfl
@[simp] theorem setGte_irqIn (g : GteRegs) : (s.setGte g).irqIn = s.irqIn := rfl
@[simp] theorem setGte_mem (g : GteRegs) : (s.setGte g).mem = s.mem := rfl
@[simp] theorem setGte_memEpoch (g : GteRegs) : (s.setGte g).memEpoch = s.memEpoch := rfl
@[simp] theorem setGte_tables (g : GteRegs) : (s.setGte g).tables = s.tables := rfl
@[simp] theorem setGte_answers (g : GteRegs) : (s.setGte g).answers = s.answers := rfl
@[simp] theorem setGte_draws (g : GteRegs) : (s.setGte g).draws = s.draws := rfl
@[simp] theorem setGte_inputs (g : GteRegs) : (s.setGte g).inputs = s.inputs := rfl
@[simp] theorem setGte_out (g : GteRegs) : (s.setGte g).out = s.out := rfl
@[simp] theorem setGte_readCp0 (g : GteRegs) (k : RegNum) : (s.setGte g).readCp0 k = s.readCp0 k := rfl
@[simp] theorem setGte_sr (g : GteRegs) : (s.setGte g).sr = s.sr := rfl
@[simp] theorem setGte_cause (g : GteRegs) : (s.setGte g).cause = s.cause := rfl
@[simp] theorem setGte_epc (g : GteRegs) : (s.setGte g).epc = s.epc := rfl
@[simp] theorem setGte_prid (g : GteRegs) : (s.setGte g).prid = s.prid := rfl
@[simp] theorem setGte_readGpr (g : GteRegs) (k : RegNum) : (s.setGte g).readGpr k = s.readGpr k := rfl
@[simp] theorem setGte_readByte (g : GteRegs) (k : Word) : (s.setGte g).readByte k = s.readByte k := rfl
@[simp] theorem setGte_fetch (g : GteRegs) (k : Word) : (s.setGte g).fetch k = s.fetch k := rfl

/-! ### `setNextEvent` -/
@[simp] theorem setNextEvent_x (v : Word) : (s.setNextEvent v).x = s.x := rfl
@[simp] theorem setNextEvent_pc (v : Word) : (s.setNextEvent v).pc = s.pc := rfl
@[simp] theorem setNextEvent_hi (v : Word) : (s.setNextEvent v).hi = s.hi := rfl
@[simp] theorem setNextEvent_lo (v : Word) : (s.setNextEvent v).lo = s.lo := rfl
@[simp] theorem setNextEvent_cycle (v : Word) : (s.setNextEvent v).cycle = s.cycle := rfl
@[simp] theorem setNextEvent_cp0 (v : Word) : (s.setNextEvent v).cp0 = s.cp0 := rfl
@[simp] theorem setNextEvent_gte (v : Word) : (s.setNextEvent v).gte = s.gte := rfl
@[simp] theorem setNextEvent_nextEvent (v : Word) : (s.setNextEvent v).nextEvent = v := rfl
@[simp] theorem setNextEvent_nextBase (v : Word) : (s.setNextEvent v).nextBase = s.nextBase := rfl
@[simp] theorem setNextEvent_host (v : Word) : (s.setNextEvent v).host = s.host := rfl
@[simp] theorem setNextEvent_cfg (v : Word) : (s.setNextEvent v).cfg = s.cfg := rfl
@[simp] theorem setNextEvent_irqIn (v : Word) : (s.setNextEvent v).irqIn = s.irqIn := rfl
@[simp] theorem setNextEvent_mem (v : Word) : (s.setNextEvent v).mem = s.mem := rfl
@[simp] theorem setNextEvent_memEpoch (v : Word) : (s.setNextEvent v).memEpoch = s.memEpoch := rfl
@[simp] theorem setNextEvent_tables (v : Word) : (s.setNextEvent v).tables = s.tables := rfl
@[simp] theorem setNextEvent_answers (v : Word) : (s.setNextEvent v).answers = s.answers := rfl
@[simp] theorem setNextEvent_draws (v : Word) : (s.setNextEvent v).draws = s.draws := rfl
@[simp] theorem setNextEvent_inputs (v : Word) : (s.setNextEvent v).inputs = s.inputs := rfl
@[simp] theorem setNextEvent_out (v : Word) : (s.setNextEvent v).out = s.out := rfl
@[simp] theorem setNextEvent_readCp0 (v : Word) (k : RegNum) : (s.setNextEvent v).readCp0 k = s.readCp0 k := rfl
@[simp] theorem setNextEvent_sr (v : Word) : (s.setNextEvent v).sr = s.sr := rfl
@[simp] theorem setNextEvent_cause (v : Word) : (s.setNextEvent v).cause = s.cause := rfl
@[simp] theorem setNextEvent_epc (v : Word) : (s.setNextEvent v).epc = s.epc := rfl
@[simp] theorem setNextEvent_prid (v : Word) : (s.setNextEvent v).prid = s.prid := rfl
@[simp] theorem setNextEvent_readGpr (v : Word) (k : RegNum) : (s.setNextEvent v).readGpr k = s.readGpr k := rfl
@[simp] theorem setNextEvent_readByte (v : Word) (k : Word) : (s.setNextEvent v).readByte k = s.readByte k := rfl
@[simp] theorem setNextEvent_fetch (v : Word) (k : Word) : (s.setNextEvent v).fetch k = s.fetch k := rfl

/-! ### `setNextBase` -/
@[simp] theorem setNextBase_x (v : Word) : (s.setNextBase v).x = s.x := rfl
@[simp] theorem setNextBase_pc (v : Word) : (s.setNextBase v).pc = s.pc := rfl
@[simp] theorem setNextBase_hi (v : Word) : (s.setNextBase v).hi = s.hi := rfl
@[simp] theorem setNextBase_lo (v : Word) : (s.setNextBase v).lo = s.lo := rfl
@[simp] theorem setNextBase_cycle (v : Word) : (s.setNextBase v).cycle = s.cycle := rfl
@[simp] theorem setNextBase_cp0 (v : Word) : (s.setNextBase v).cp0 = s.cp0 := rfl
@[simp] theorem setNextBase_gte (v : Word) : (s.setNextBase v).gte = s.gte := rfl
@[simp] theorem setNextBase_nextEvent (v : Word) : (s.setNextBase v).nextEvent = s.nextEvent := rfl
@[simp] theorem setNextBase_nextBase (v : Word) : (s.setNextBase v).nextBase = v := rfl
@[simp] theorem setNextBase_host (v : Word) : (s.setNextBase v).host = s.host := rfl
@[simp] theorem setNextBase_cfg (v : Word) : (s.setNextBase v).cfg = s.cfg := rfl
@[simp] theorem setNextBase_irqIn (v : Word) : (s.setNextBase v).irqIn = s.irqIn := rfl
@[simp] theorem setNextBase_mem (v : Word) : (s.setNextBase v).mem = s.mem := rfl
@[simp] theorem setNextBase_memEpoch (v : Word) : (s.setNextBase v).memEpoch = s.memEpoch := rfl
@[simp] theorem setNextBase_tables (v : Word) : (s.setNextBase v).tables = s.tables := rfl
@[simp] theorem setNextBase_answers (v : Word) : (s.setNextBase v).answers = s.answers := rfl
@[simp] theorem setNextBase_draws (v : Word) : (s.setNextBase v).draws = s.draws := rfl
@[simp] theorem setNextBase_inputs (v : Word) : (s.setNextBase v).inputs = s.inputs := rfl
@[simp] theorem setNextBase_out (v : Word) : (s.setNextBase v).out = s.out := rfl
@[simp] theorem setNextBase_readCp0 (v : Word) (k : RegNum) : (s.setNextBase v).readCp0 k = s.readCp0 k := rfl
@[simp] theorem setNextBase_sr (v : Word) : (s.setNextBase v).sr = s.sr := rfl
@[simp] theorem setNextBase_cause (v : Word) : (s.setNextBase v).cause = s.cause := rfl
@[simp] theorem setNextBase_epc (v : Word) : (s.setNextBase v).epc = s.epc := rfl
@[simp] theorem setNextBase_prid (v : Word) : (s.setNextBase v).prid = s.prid := rfl
@[simp] theorem setNextBase_readGpr (v : Word) (k : RegNum) : (s.setNextBase v).readGpr k = s.readGpr k := rfl
@[simp] theorem setNextBase_readByte (v : Word) (k : Word) : (s.setNextBase v).readByte k = s.readByte k := rfl
@[simp] theorem setNextBase_fetch (v : Word) (k : Word) : (s.setNextBase v).fetch k = s.fetch k := rfl

/-! ### `setIrq` -/
@[simp] theorem setIrq_x (q : IrqIn) : (s.setIrq q).x = s.x := rfl
@[simp] theorem setIrq_pc (q : IrqIn) : (s.setIrq q).pc = s.pc := rfl
@[simp] theorem setIrq_hi (q : IrqIn) : (s.setIrq q).hi = s.hi := rfl
@[simp] theorem setIrq_lo (q : IrqIn) : (s.setIrq q).lo = s.lo := rfl
@[simp] theorem setIrq_cycle (q : IrqIn) : (s.setIrq q).cycle = s.cycle := rfl
@[simp] theorem setIrq_cp0 (q : IrqIn) : (s.setIrq q).cp0 = s.cp0 := rfl
@[simp] theorem setIrq_gte (q : IrqIn) : (s.setIrq q).gte = s.gte := rfl
@[simp] theorem setIrq_nextEvent (q : IrqIn) : (s.setIrq q).nextEvent = s.nextEvent := rfl
@[simp] theorem setIrq_nextBase (q : IrqIn) : (s.setIrq q).nextBase = s.nextBase := rfl
@[simp] theorem setIrq_host (q : IrqIn) : (s.setIrq q).host = s.host := rfl
@[simp] theorem setIrq_cfg (q : IrqIn) : (s.setIrq q).cfg = s.cfg := rfl
@[simp] theorem setIrq_irqIn (q : IrqIn) : (s.setIrq q).irqIn = q := rfl
@[simp] theorem setIrq_mem (q : IrqIn) : (s.setIrq q).mem = s.mem := rfl
@[simp] theorem setIrq_memEpoch (q : IrqIn) : (s.setIrq q).memEpoch = s.memEpoch := rfl
@[simp] theorem setIrq_tables (q : IrqIn) : (s.setIrq q).tables = s.tables := rfl
@[simp] theorem setIrq_answers (q : IrqIn) : (s.setIrq q).answers = s.answers := rfl
@[simp] theorem setIrq_draws (q : IrqIn) : (s.setIrq q).draws = s.draws := rfl
@[simp] theorem setIrq_inputs (q : IrqIn) : (s.setIrq q).inputs = s.inputs := rfl
@[simp] theorem setIrq_out (q : IrqIn) : (s.setIrq q).out = s.out := rfl
@[simp] theorem setIrq_readCp0 (q : IrqIn) (k : RegNum) : (s.setIrq q).readCp0 k = s.readCp0 k := rfl
@[simp] theorem setIrq_sr (q : IrqIn) : (s.setIrq q).sr = s.sr := rfl
@[simp] theorem setIrq_cause (q : IrqIn) : (s.setIrq q).cause = s.cause := rfl
@[simp] theorem setIrq_epc (q : IrqIn) : (s.setIrq q).epc = s.epc := rfl
@[simp] theorem setIrq_prid (q : IrqIn) : (s.setIrq q).prid = s.prid := rfl
@[simp] theorem setIrq_readGpr (q : IrqIn) (k : RegNum) : (s.setIrq q).readGpr k = s.readGpr k := rfl
@[simp] theorem setIrq_readByte (q : IrqIn) (k : Word) : (s.setIrq q).readByte k = s.readByte k := rfl
@[simp] theorem setIrq_fetch (q : IrqIn) (k : Word) : (s.setIrq q).fetch k = s.fetch k := rfl

/-! ### `setHost` -/
@[simp] theorem setHost_x (h : HostState) : (s.setHost h).x = s.x := rfl
@[simp] theorem setHost_pc (h : HostState) : (s.setHost h).pc = s.pc := rfl
@[simp] theorem setHost_hi (h : HostState) : (s.setHost h).hi = s.hi := rfl
@[simp] theorem setHost_lo (h : HostState) : (s.setHost h).lo = s.lo := rfl
@[simp] theorem setHost_cycle (h : HostState) : (s.setHost h).cycle = s.cycle := rfl
@[simp] theorem setHost_cp0 (h : HostState) : (s.setHost h).cp0 = s.cp0 := rfl
@[simp] theorem setHost_gte (h : HostState) : (s.setHost h).gte = s.gte := rfl
@[simp] theorem setHost_nextEvent (h : HostState) : (s.setHost h).nextEvent = s.nextEvent := rfl
@[simp] theorem setHost_nextBase (h : HostState) : (s.setHost h).nextBase = s.nextBase := rfl
@[simp] theorem setHost_host (h : HostState) : (s.setHost h).host = h := rfl
@[simp] theorem setHost_cfg (h : HostState) : (s.setHost h).cfg = s.cfg := rfl
@[simp] theorem setHost_irqIn (h : HostState) : (s.setHost h).irqIn = s.irqIn := rfl
@[simp] theorem setHost_mem (h : HostState) : (s.setHost h).mem = s.mem := rfl
@[simp] theorem setHost_memEpoch (h : HostState) : (s.setHost h).memEpoch = s.memEpoch := rfl
@[simp] theorem setHost_tables (h : HostState) : (s.setHost h).tables = s.tables := rfl
@[simp] theorem setHost_answers (h : HostState) : (s.setHost h).answers = s.answers := rfl
@[simp] theorem setHost_draws (h : HostState) : (s.setHost h).draws = s.draws := rfl
@[simp] theorem setHost_inputs (h : HostState) : (s.setHost h).inputs = s.inputs := rfl
@[simp] theorem setHost_out (h : HostState) : (s.setHost h).out = s.out := rfl
@[simp] theorem setHost_readCp0 (h : HostState) (k : RegNum) : (s.setHost h).readCp0 k = s.readCp0 k := rfl
@[simp] theorem setHost_sr (h : HostState) : (s.setHost h).sr = s.sr := rfl
@[simp] theorem setHost_cause (h : HostState) : (s.setHost h).cause = s.cause := rfl
@[simp] theorem setHost_epc (h : HostState) : (s.setHost h).epc = s.epc := rfl
@[simp] theorem setHost_prid (h : HostState) : (s.setHost h).prid = s.prid := rfl
@[simp] theorem setHost_readGpr (h : HostState) (k : RegNum) : (s.setHost h).readGpr k = s.readGpr k := rfl
@[simp] theorem setHost_readByte (h : HostState) (k : Word) : (s.setHost h).readByte k = s.readByte k := rfl
@[simp] theorem setHost_fetch (h : HostState) (k : Word) : (s.setHost h).fetch k = s.fetch k := rfl

/-! ### `setTimingFix` -/
@[simp] theorem setTimingFix_x (v : Nat) : (s.setTimingFix v).x = s.x := rfl
@[simp] theorem setTimingFix_pc (v : Nat) : (s.setTimingFix v).pc = s.pc := rfl
@[simp] theorem setTimingFix_hi (v : Nat) : (s.setTimingFix v).hi = s.hi := rfl
@[simp] theorem setTimingFix_lo (v : Nat) : (s.setTimingFix v).lo = s.lo := rfl
@[simp] theorem setTimingFix_cycle (v : Nat) : (s.setTimingFix v).cycle = s.cycle := rfl
@[simp] theorem setTimingFix_cp0 (v : Nat) : (s.setTimingFix v).cp0 = s.cp0 := rfl
@[simp] theorem setTimingFix_gte (v : Nat) : (s.setTimingFix v).gte = s.gte := rfl
@[simp] theorem setTimingFix_nextEvent (v : Nat) : (s.setTimingFix v).nextEvent = s.nextEvent := rfl
@[simp] theorem setTimingFix_nextBase (v : Nat) : (s.setTimingFix v).nextBase = s.nextBase := rfl
@[simp] theorem setTimingFix_host (v : Nat) : (s.setTimingFix v).host = s.host := rfl
@[simp] theorem setTimingFix_cfg (v : Nat) : (s.setTimingFix v).cfg = { s.cfg with timingFix := v } := rfl
@[simp] theorem setTimingFix_irqIn (v : Nat) : (s.setTimingFix v).irqIn = s.irqIn := rfl
@[simp] theorem setTimingFix_mem (v : Nat) : (s.setTimingFix v).mem = s.mem := rfl
@[simp] theorem setTimingFix_memEpoch (v : Nat) : (s.setTimingFix v).memEpoch = s.memEpoch := rfl
@[simp] theorem setTimingFix_tables (v : Nat) : (s.setTimingFix v).tables = s.tables := rfl
@[simp] theorem setTimingFix_answers (v : Nat) : (s.setTimingFix v).answers = s.answers := rfl
@[simp] theorem setTimingFix_draws (v : Nat) : (s.setTimingFix v).draws = s.draws := rfl
@[simp] theorem setTimingFix_inputs (v : Nat) : (s.setTimingFix v).inputs = s.inputs := rfl
@[simp] theorem setTimingFix_out (v : Nat) : (s.setTimingFix v).out = s.out := rfl
@[simp] theorem setTimingFix_readCp0 (v : Nat) (k : RegNum) : (s.setTimingFix v).readCp0 k = s.readCp0 k := rfl
@[simp] theorem setTimingFix_sr (v : Nat) : (s.setTimingFix v).sr = s.sr := rfl
@[simp] theorem setTimingFix_cause (v : Nat) : (s.setTimingFix v).cause = s.cause := rfl
@[simp] theorem setTimingFix_epc (v : Nat) : (s.setTimingFix v).epc = s.epc := rfl
@[simp] theorem setTimingFix_prid (v : Nat) : (s.setTimingFix v).prid = s.prid := rfl
@[simp] theorem setTimingFix_readGpr (v : Nat) (k : RegNum) : (s.setTimingFix v).readGpr k = s.readGpr k := rfl
@[simp] theorem setTimingFix_readByte (v : Nat) (k : Word) : (s.setTimingFix v).readByte k = s.readByte k := rfl
@[simp] theorem setTimingFix_fetch (v : Nat) (k : Word) : (s.setTimingFix v).fetch k = s.fetch k := rfl

/-! ### `writeCp0` -/
@[simp] theorem writeCp0_x (n : RegNum) (v : Word) : (s.writeCp0 n v).x = s.x := rfl
@[simp] theorem writeCp0_pc (n : RegNum) (v : Word) : (s.writeCp0 n v).pc = s.pc := rfl
@[simp] theorem writeCp0_hi (n : RegNum) (v : Word) : (s.writeCp0 n v).hi = s.hi := rfl
@[simp] theorem writeCp0_lo (n : RegNum) (v : Word) : (s.writeCp0 n v).lo = s.lo := rfl
@[simp] theorem writeCp0_cycle (n : RegNum) (v : Word) : (s.writeCp0 n v).cycle = s.cycle := rfl
@[simp] theorem writeCp0_cp0 (n : RegNum) (v : Word) : (s.writeCp0 n v).cp0 = s.cp0.set n.toNat v n.isLt := rfl
@[simp] theorem writeCp0_gte (n : RegNum) (v : Word) : (s.writeCp0 n v).gte = s.gte := rfl
@[simp] theorem writeCp0_nextEvent (n : RegNum) (v : Word) : (s.writeCp0 n v).nextEvent = s.nextEvent := rfl
@[simp] theorem writeCp0_nextBase (n : RegNum) (v : Word) : (s.writeCp0 n v).nextBase = s.nextBase := rfl
@[simp] theorem writeCp0_host (n : RegNum) (v : Word) : (s.writeCp0 n v).host = s.host := rfl
@[simp] theorem writeCp0_cfg (n : RegNum) (v : Word) : (s.writeCp0 n v).cfg = s.cfg := rfl
@[simp] theorem writeCp0_irqIn (n : RegNum) (v : Word) : (s.writeCp0 n v).irqIn = s.irqIn := rfl
@[simp] theorem writeCp0_mem (n : RegNum) (v : Word) : (s.writeCp0 n v).mem = s.mem := rfl
@[simp] theorem writeCp0_memEpoch (n : RegNum) (v : Word) : (s.writeCp0 n v).memEpoch = s.memEpoch := rfl
@[simp] theorem writeCp0_tables (n : RegNum) (v : Word) : (s.writeCp0 n v).tables = s.tables := rfl
@[simp] theorem writeCp0_answers (n : RegNum) (v : Word) : (s.writeCp0 n v).answers = s.answers := rfl
@[simp] theorem writeCp0_draws (n : RegNum) (v : Word) : (s.writeCp0 n v).draws = s.draws := rfl
@[simp] theorem writeCp0_inputs (n : RegNum) (v : Word) : (s.writeCp0 n v).inputs = s.inputs := rfl
@[simp] theorem writeCp0_out (n : RegNum) (v : Word) : (s.writeCp0 n v).out = s.out := rfl
@[simp] theorem writeCp0_readGpr (n : RegNum) (v : Word) (k : RegNum) : (s.writeCp0 n v).readGpr k = s.readGpr k := rfl
@[simp] theorem writeCp0_readByte (n : RegNum) (v : Word) (k : Word) : (s.writeCp0 n v).readByte k = s.readByte k := rfl
@[simp] theorem writeCp0_fetch (n : RegNum) (v : Word) (k : Word) : (s.writeCp0 n v).fetch k = s.fetch k := rfl

/-! ### `setByte` -/
@[simp] theorem setByte_x (a : Word) (b : Byte) : (s.setByte a b).x = s.x := rfl
@[simp] theorem setByte_pc (a : Word) (b : Byte) : (s.setByte a b).pc = s.pc := rfl
@[simp] theorem setByte_hi (a : Word) (b : Byte) : (s.setByte a b).hi = s.hi := rfl
@[simp] theorem setByte_lo (a : Word) (b : Byte) : (s.setByte a b).lo = s.lo := rfl
@[simp] theorem setByte_cycle (a : Word) (b : Byte) : (s.setByte a b).cycle = s.cycle := rfl
@[simp] theorem setByte_cp0 (a : Word) (b : Byte) : (s.setByte a b).cp0 = s.cp0 := rfl
@[simp] theorem setByte_gte (a : Word) (b : Byte) : (s.setByte a b).gte = s.gte := rfl
@[simp] theorem setByte_nextEvent (a : Word) (b : Byte) : (s.setByte a b).nextEvent = s.nextEvent := rfl
@[simp] theorem setByte_nextBase (a : Word) (b : Byte) : (s.setByte a b).nextBase = s.nextBase := rfl
@[simp] theorem setByte_host (a : Word) (b : Byte) : (s.setByte a b).host = s.host := rfl
@[simp] theorem setByte_cfg (a : Word) (b : Byte) : (s.setByte a b).cfg = s.cfg := rfl
@[simp] theorem setByte_irqIn (a : Word) (b : Byte) : (s.setByte a b).irqIn = s.irqIn := rfl
@[simp] theorem setByte_mem (a : Word) (b : Byte) : (s.setByte a b).mem = Memory.write s.mem a.toNat b := rfl
@[simp] theorem setByte_memEpoch (a : Word) (b : Byte) : (s.setByte a b).memEpoch = s.memEpoch := rfl
@[simp] theorem setByte_tables (a : Word) (b : Byte) : (s.setByte a b).tables = s.tables := rfl
@[simp] theorem setByte_answers (a : Word) (b : Byte) : (s.setByte a b).answers = s.answers := rfl
@[simp] theorem setByte_draws (a : Word) (b : Byte) : (s.setByte a b).draws = s.draws := rfl
@[simp] theorem setByte_inputs (a : Word) (b : Byte) : (s.setByte a b).inputs = s.inputs := rfl
@[simp] theorem setByte_out (a : Word) (b : Byte) : (s.setByte a b).out = s.out := rfl
@[simp] theorem setByte_readCp0 (a : Word) (b : Byte) (k : RegNum) : (s.setByte a b).readCp0 k = s.readCp0 k := rfl
@[simp] theorem setByte_sr (a : Word) (b : Byte) : (s.setByte a b).sr = s.sr := rfl
@[simp] theorem setByte_cause (a : Word) (b : Byte) : (s.setByte a b).cause = s.cause := rfl
@[simp] theorem setByte_epc (a : Word) (b : Byte) : (s.setByte a b).epc = s.epc := rfl
@[simp] theorem setByte_prid (a : Word) (b : Byte) : (s.setByte a b).prid = s.prid := rfl
@[simp] theorem setByte_readGpr (a : Word) (b : Byte) (k : RegNum) : (s.setByte a b).readGpr k = s.readGpr k := rfl

/-! ### `memoryReplaced` -/
@[simp] theorem memoryReplaced_x : (s.memoryReplaced).x = s.x := rfl
@[simp] theorem memoryReplaced_pc : (s.memoryReplaced).pc = s.pc := rfl
@[simp] theorem memoryReplaced_hi : (s.memoryReplaced).hi = s.hi := rfl
@[simp] theorem memoryReplaced_lo : (s.memoryReplaced).lo = s.lo := rfl
@[simp] theorem memoryReplaced_cycle : (s.memoryReplaced).cycle = s.cycle := rfl
@[simp] theorem memoryReplaced_cp0 : (s.memoryReplaced).cp0 = s.cp0 := rfl
@[simp] theorem memoryReplaced_gte : (s.memoryReplaced).gte = s.gte := rfl
@[simp] theorem memoryReplaced_nextEvent : (s.memoryReplaced).nextEvent = s.nextEvent := rfl
@[simp] theorem memoryReplaced_nextBase : (s.memoryReplaced).nextBase = s.nextBase := rfl
@[simp] theorem memoryReplaced_host : (s.memoryReplaced).host = s.host := rfl
@[simp] theorem memoryReplaced_cfg : (s.memoryReplaced).cfg = s.cfg := rfl
@[simp] theorem memoryReplaced_irqIn : (s.memoryReplaced).irqIn = s.irqIn := rfl
@[simp] theorem memoryReplaced_mem : (s.memoryReplaced).mem = [] := rfl
@[simp] theorem memoryReplaced_memEpoch : (s.memoryReplaced).memEpoch = s.memEpoch + 1 := rfl
@[simp] theorem memoryReplaced_tables : (s.memoryReplaced).tables = s.tables := rfl
@[simp] theorem memoryReplaced_answers : (s.memoryReplaced).answers = s.answers := rfl
@[simp] theorem memoryReplaced_draws : (s.memoryReplaced).draws = s.draws := rfl
@[simp] theorem memoryReplaced_inputs : (s.memoryReplaced).inputs = s.inputs := rfl
@[simp] theorem memoryReplaced_out : (s.memoryReplaced).out = s.out := rfl
@[simp] theorem memoryReplaced_readCp0 (k : RegNum) : (s.memoryReplaced).readCp0 k = s.readCp0 k := rfl
@[simp] theorem memoryReplaced_sr : (s.memoryReplaced).sr = s.sr := rfl
@[simp] theorem memoryReplaced_cause : (s.memoryReplaced).cause = s.cause := rfl
@[simp] theorem memoryReplaced_epc : (s.memoryReplaced).epc = s.epc := rfl
@[simp] theorem memoryReplaced_prid : (s.memoryReplaced).prid = s.prid := rfl
@[simp] theorem memoryReplaced_readGpr (k : RegNum) : (s.memoryReplaced).readGpr k = s.readGpr k := rfl

/-! ### `present` -/
@[simp] theorem present_x (i : Input) : (s.present i).x = s.x := rfl
@[simp] theorem present_pc (i : Input) : (s.present i).pc = s.pc := rfl
@[simp] theorem present_hi (i : Input) : (s.present i).hi = s.hi := rfl
@[simp] theorem present_lo (i : Input) : (s.present i).lo = s.lo := rfl
@[simp] theorem present_cycle (i : Input) : (s.present i).cycle = s.cycle := rfl
@[simp] theorem present_cp0 (i : Input) : (s.present i).cp0 = s.cp0 := rfl
@[simp] theorem present_gte (i : Input) : (s.present i).gte = s.gte := rfl
@[simp] theorem present_nextEvent (i : Input) : (s.present i).nextEvent = s.nextEvent := rfl
@[simp] theorem present_nextBase (i : Input) : (s.present i).nextBase = s.nextBase := rfl
@[simp] theorem present_host (i : Input) : (s.present i).host = s.host := rfl
@[simp] theorem present_cfg (i : Input) : (s.present i).cfg = s.cfg := rfl
@[simp] theorem present_irqIn (i : Input) : (s.present i).irqIn = s.irqIn := rfl
@[simp] theorem present_mem (i : Input) : (s.present i).mem = s.mem := rfl
@[simp] theorem present_memEpoch (i : Input) : (s.present i).memEpoch = s.memEpoch := rfl
@[simp] theorem present_tables (i : Input) : (s.present i).tables = s.tables := rfl
@[simp] theorem present_answers (i : Input) : (s.present i).answers = s.answers := rfl
@[simp] theorem present_draws (i : Input) : (s.present i).draws = s.draws := rfl
@[simp] theorem present_inputs (i : Input) : (s.present i).inputs = i :: s.inputs := rfl
@[simp] theorem present_out (i : Input) : (s.present i).out = s.out := rfl
@[simp] theorem present_readCp0 (i : Input) (k : RegNum) : (s.present i).readCp0 k = s.readCp0 k := rfl
@[simp] theorem present_sr (i : Input) : (s.present i).sr = s.sr := rfl
@[simp] theorem present_cause (i : Input) : (s.present i).cause = s.cause := rfl
@[simp] theorem present_epc (i : Input) : (s.present i).epc = s.epc := rfl
@[simp] theorem present_prid (i : Input) : (s.present i).prid = s.prid := rfl
@[simp] theorem present_readGpr (i : Input) (k : RegNum) : (s.present i).readGpr k = s.readGpr k := rfl
@[simp] theorem present_readByte (i : Input) (k : Word) : (s.present i).readByte k = s.readByte k := rfl
@[simp] theorem present_fetch (i : Input) (k : Word) : (s.present i).fetch k = s.fetch k := rfl

/-! ### `writeGpr` -/
theorem writeGpr_zero (v : Word) : s.writeGpr 0#5 v = s := rfl

theorem writeGpr_of_ne {n : RegNum} (h : n ≠ 0#5) (v : Word) :
    s.writeGpr n v = { s with x := s.x.set n.toNat v n.isLt } := if_neg h

@[simp] theorem writeGpr_pc (n : RegNum) (v : Word) : (s.writeGpr n v).pc = s.pc := by
  unfold writeGpr; split <;> rfl
@[simp] theorem writeGpr_hi (n : RegNum) (v : Word) : (s.writeGpr n v).hi = s.hi := by
  unfold writeGpr; split <;> rfl
@[simp] theorem writeGpr_lo (n : RegNum) (v : Word) : (s.writeGpr n v).lo = s.lo := by
  unfold writeGpr; split <;> rfl
@[simp] theorem writeGpr_cycle (n : RegNum) (v : Word) : (s.writeGpr n v).cycle = s.cycle := by
  unfold writeGpr; split <;> rfl
@[simp] theorem writeGpr_cp0 (n : RegNum) (v : Word) : (s.writeGpr n v).cp0 = s.cp0 := by
  unfold writeGpr; split <;> rfl
@[simp] theorem writeGpr_gte (n : RegNum) (v : Word) : (s.writeGpr n v).gte = s.gte := by
  unfold writeGpr; split <;> rfl
@[simp] theorem writeGpr_nextEvent (n : RegNum) (v : Word) : (s.writeGpr n v).nextEvent = s.nextEvent := by
  unfold writeGpr; split <;> rfl
@[simp] theorem writeGpr_nextBase (n : RegNum) (v : Word) : (s.writeGpr n v).nextBase = s.nextBase := by
  unfold writeGpr; split <;> rfl
@[simp] theorem writeGpr_host (n : RegNum) (v : Word) : (s.writeGpr n v).host = s.host := by
  unfold writeGpr; split <;> rfl
@[simp] theorem writeGpr_cfg (n : RegNum) (v : Word) : (s.writeGpr n v).cfg = s.cfg := by
  unfold writeGpr; split <;> rfl
@[simp] theorem writeGpr_irqIn (n : RegNum) (v : Word) : (s.writeGpr n v).irqIn = s.irqIn := by
  unfold writeGpr; split <;> rfl
@[simp] theorem writeGpr_mem (n : RegNum) (v : Word) : (s.writeGpr n v).mem = s.mem := by
  unfold writeGpr; split <;> rfl
@[simp] theorem writeGpr_memEpoch (n : RegNum) (v : Word) : (s.writeGpr n v).memEpoch = s.memEpoch := by
  unfold writeGpr; split <;> rfl
@[simp] theorem writeGpr_tables (n : RegNum) (v : Word) : (s.writeGpr n v).tables = s.tables := by
  unfold writeGpr; split <;> rfl
@[simp] theorem writeGpr_answers (n : RegNum) (v : Word) : (s.writeGpr n v).answers = s.answers := by
  unfold writeGpr; split <;> rfl
@[simp] theorem writeGpr_draws (n : RegNum) (v : Word) : (s.writeGpr n v).draws = s.draws := by
  unfold writeGpr; split <;> rfl
@[simp] theorem writeGpr_inputs (n : RegNum) (v : Word) : (s.writeGpr n v).inputs = s.inputs := by
  unfold writeGpr; split <;> rfl
@[simp] theorem writeGpr_out (n : RegNum) (v : Word) : (s.writeGpr n v).out = s.out := by
  unfold writeGpr; split <;> rfl
@[simp] theorem writeGpr_readCp0 (n : RegNum) (v : Word) (k : RegNum) :
    (s.writeGpr n v).readCp0 k = s.readCp0 k := by unfold writeGpr; split <;> rfl
@[simp] theorem writeGpr_readByte (n : RegNum) (v : Word) (k : Word) :
    (s.writeGpr n v).readByte k = s.readByte k := by unfold writeGpr; split <;> rfl

end Sys2Proof.Machine.State
end

