-- ==== Sys2Proof/Laws/Memory.lean ====
section
/-!
SUPPORT. Registers and memory: a read after a write gives the value written, a write leaves every other
place alone, and every memory operation keeps the canonical form.
-/
namespace Sys2Proof.Machine

namespace State

variable (s : State)

/-- Every register number reads back what was written to it, but `x[0]`, which reads zero (R21). -/
theorem readGpr_writeGpr (m n : RegNum) (v : Word) :
    (s.writeGpr m v).readGpr n = if n = 0#5 then 0#32 else if m = n then v else s.readGpr n := by
  by_cases hn : n = 0#5
  · simp [readGpr, hn]
  by_cases hm : m = 0#5
  · subst hm; simp [writeGpr_zero, readGpr, hn, Ne.symm hn]
  · simp only [readGpr, hn, if_false, writeGpr_of_ne s hm, Vector.getElem_set,
      BitVec.toNat_inj]

/-- Every CP0 cell reads back what was written to it (R27). -/
theorem readCp0_writeCp0 (m n : RegNum) (v : Word) :
    (s.writeCp0 m v).readCp0 n = if m = n then v else s.readCp0 n := by
  simp only [readCp0, writeCp0, Vector.getElem_set, BitVec.toNat_inj]

/-- Writing a cell twice keeps the last value. -/
theorem writeCp0_writeCp0 (n : RegNum) (v w : Word) :
    (s.writeCp0 n v).writeCp0 n w = s.writeCp0 n w := by
  simp [writeCp0]

end State

namespace Memory

/-- An address below every listed one is not listed. -/
theorem read_of_risingAbove {m : Memory} {lo a : Nat} (h : m.risingAbove lo = true) (ha : a < lo) :
    m.read a = none := by
  induction m generalizing lo with
  | nil => rfl
  | cons e rest ih =>
    obtain ⟨k, b⟩ := e
    simp only [risingAbove, Bool.and_eq_true, decide_eq_true_eq] at h
    simp only [read, if_neg (by omega : ¬ k = a)]
    exact ih h.2 (by omega)

/-- A weaker bound holds too. -/
theorem risingAbove_mono {m : Memory} {lo lo' : Nat} (h : m.risingAbove lo = true) (hle : lo' ≤ lo) :
    m.risingAbove lo' = true := by
  cases m with
  | nil => rfl
  | cons e rest =>
    simp only [risingAbove, Bool.and_eq_true, decide_eq_true_eq] at h ⊢
    exact ⟨⟨by omega, h.1.2⟩, h.2⟩

theorem risingAbove_write {m : Memory} {lo a : Nat} (b : Byte) (h : m.risingAbove lo = true)
    (hlo : lo ≤ a) (ha : a < 2 ^ 32) : (m.write a b).risingAbove lo = true := by
  induction m generalizing lo with
  | nil => simp [write, risingAbove, hlo]; omega
  | cons e rest ih =>
    obtain ⟨k, c⟩ := e
    have h' := h
    simp only [risingAbove, Bool.and_eq_true, decide_eq_true_eq] at h'
    unfold write
    split
    · simp only [risingAbove, Bool.and_eq_true, decide_eq_true_eq]
      exact ⟨⟨hlo, ha⟩, ⟨by omega, h'.1.2⟩, h'.2⟩
    split
    · subst a
      simp only [risingAbove, Bool.and_eq_true, decide_eq_true_eq]
      exact h'
    · simp only [risingAbove, Bool.and_eq_true, decide_eq_true_eq]
      exact ⟨h'.1, ih h'.2 (by omega)⟩

/-- A write of a 32-bit address keeps the canonical form. -/
theorem wf_write {m : Memory} {a : Nat} (b : Byte) (h : m.wf = true) (ha : a < 2 ^ 32) :
    (m.write a b).wf = true := risingAbove_write b h (Nat.zero_le a) ha

theorem wf_nil : Memory.wf [] = true := rfl

/-- A byte written reads back, and every other address reads as before. -/
theorem read_write (m : Memory) (a k : Nat) (b : Byte) :
    (m.write a b).read k = if k = a then some b else m.read k := by
  by_cases hk : k = a
  · subst hk
    rw [if_pos rfl]
    induction m with
    | nil => simp [write, read]
    | cons e rest ih =>
      simp only [write]
      split
      · simp [read]
      split
      · simp [read]
      · simp only [read, if_neg (Ne.symm ‹¬k = e.1›), ih]
  · rw [if_neg hk]
    induction m with
    | nil => simp [write, read, Ne.symm hk]
    | cons e rest ih =>
      simp only [write]
      split
      · simp [read, Ne.symm hk]
      split
      · simp only [read, if_neg (Ne.symm hk), ← ‹a = e.1›]
      · simp only [read, ih]

end Memory

/-- The bytes a word is assembled from are its bytes (R62). -/
theorem wordByte_assembleWord (b0 b1 b2 b3 : Byte) :
    wordByte (assembleWord b0 b1 b2 b3) 0 = b0 ∧ wordByte (assembleWord b0 b1 b2 b3) 1 = b1 ∧
    wordByte (assembleWord b0 b1 b2 b3) 2 = b2 ∧ wordByte (assembleWord b0 b1 b2 b3) 3 = b3 := by
  have bits : ∀ k, (b3 ++ b2 ++ b1 ++ b0).getLsbD k =
      if k < 8 then b0.getLsbD k else if k - 8 < 8 then b1.getLsbD (k - 8)
        else if k - 8 - 8 < 8 then b2.getLsbD (k - 8 - 8) else b3.getLsbD (k - 8 - 8 - 8) := fun k => by
    rw [BitVec.getLsbD_append, BitVec.getLsbD_append, BitVec.getLsbD_append]
  refine ⟨?_, ?_, ?_, ?_⟩ <;> refine BitVec.eq_of_getLsbD_eq fun k hk => ?_
  all_goals
    simp only [wordByte, assembleWord, Config.memEndian, BitVec.getLsbD_extractLsb', hk, decide_true,
      Bool.true_and]
    refine (bits _).trans ?_
  · simp [hk]
  · rw [if_neg (by omega), if_pos (by omega)]; simp
  · rw [if_neg (by omega), if_neg (by omega), if_pos (by omega)]; congr 1; omega
  · rw [if_neg (by omega), if_neg (by omega), if_neg (by omega)]; congr 1; omega

namespace State

/-- A byte placed on the fetch port is the byte it shows. -/
theorem readByte_setByte (s : State) (a k : Word) (b : Byte) :
    (s.setByte a b).readByte k = if k = a then some b else s.readByte k := by
  simp [readByte, setByte, Memory.read_write, BitVec.toNat_inj]

/-- A listed byte is shown, whatever is listed beside it (R70). -/
theorem shownByte_of_listed {s : State} {a : Word} {i : Nat} {b : Byte}
    (h : s.readByte (a + BitVec.ofNat 32 i) = some b) : s.shownByte a i = b := by
  simp [shownByte, h]

/-- Where no byte is listed the oracle's is shown. -/
theorem shownByte_of_unlisted {s : State} {a : Word} {i : Nat}
    (h : s.readByte (a + BitVec.ofNat 32 i) = none) :
    s.shownByte a i = wordByte (Config.fetchOracle s.memEpoch s.mem a) i := by
  simp [shownByte, h]

theorem fetch_of_aligned (s : State) {a : Word} (h : a.extractLsb' 0 2 = 0#2) :
    s.fetch a =
      assembleWord (s.shownByte a 0) (s.shownByte a 1) (s.shownByte a 2) (s.shownByte a 3) := by
  simp [fetch, h]

/-- Byte `i` of the word fetched at an aligned address is the byte shown there. -/
theorem wordByte_fetch (s : State) {a : Word} (h : a.extractLsb' 0 2 = 0#2) {i : Nat} (hi : i < 4) :
    wordByte (s.fetch a) i = s.shownByte a i := by
  obtain ⟨h0, h1, h2, h3⟩ :=
    wordByte_assembleWord (s.shownByte a 0) (s.shownByte a 1) (s.shownByte a 2) (s.shownByte a 3)
  rw [fetch_of_aligned s h]
  obtain rfl | rfl | rfl | rfl : i = 0 ∨ i = 1 ∨ i = 2 ∨ i = 3 := by omega
  · exact h0
  · exact h1
  · exact h2
  · exact h3

/-- A byte stored at an aligned word is seen in the word fetched there, whatever is listed beside it
(R70). -/
theorem wordByte_fetch_setByte (s : State) {a : Word} (h : a.extractLsb' 0 2 = 0#2) {i : Nat}
    (hi : i < 4) (b : Byte) :
    wordByte ((s.setByte (a + BitVec.ofNat 32 i) b).fetch a) i = b :=
  (wordByte_fetch _ h hi).trans
    (shownByte_of_listed ((readByte_setByte s _ _ b).trans (if_pos rfl)))

theorem fetch_of_misaligned (s : State) {a : Word} (h : a.extractLsb' 0 2 ≠ 0#2) :
    s.fetch a = Config.fetchOracle s.memEpoch s.mem a := by
  simp [fetch, h]

theorem setByte_wf {s : State} (a : Word) (b : Byte) (h : Memory.wf s.mem = true) :
    Memory.wf (s.setByte a b).mem = true := Memory.wf_write b h a.isLt

theorem memoryReplaced_wf (s : State) : Memory.wf s.memoryReplaced.mem = true := rfl

end State

end Sys2Proof.Machine
end

