-- ==== Sys2Proof/Laws/Ops.lean ====
section
/-!
SUPPORT. What the shared operations do, said once each: the gates, an answer drawn, the
geometry-coprocessor special case, taking an exception, resetting the block.
-/
namespace Sys2Proof.Machine.State

/-! ### Which commands are accepted -/

theorem whenLive_of_live {s : State} (h : s.host.phase = .live) (t : State) :
    s.whenLive t = .next t := by simp [whenLive, h]

theorem whenLive_next {s t u : State} (h : s.whenLive t = .next u) :
    s.host.phase = .live ∧ u = t := by
  unfold whenLive at h
  split at h <;> first | (injection h with h; exact ⟨by assumption, h.symm⟩) | cases h

theorem whenNotShutDown_next {s t u : State} (h : s.whenNotShutDown t = .next u) :
    (s.host.phase = .live ∨ s.host.phase = .unreset) ∧ u = t := by
  unfold whenNotShutDown at h
  split at h <;> first | (injection h with h; exact ⟨by simp [*], h.symm⟩) | cases h

theorem whenInitialised_next {s t u : State} (h : s.whenInitialised t = .next u) :
    s.host.phase ≠ .shutDown ∧ u = t := by
  unfold whenInitialised at h
  split at h <;> first | (injection h with h; exact ⟨by simp [*], h.symm⟩) | cases h

variable (s : State)

/-! ### A drawn answer: only `answers` and `draws` move -/

@[simp] theorem draw_x : s.draw.2.x = s.x := by unfold draw; split <;> rfl
@[simp] theorem draw_pc : s.draw.2.pc = s.pc := by unfold draw; split <;> rfl
@[simp] theorem draw_hi : s.draw.2.hi = s.hi := by unfold draw; split <;> rfl
@[simp] theorem draw_lo : s.draw.2.lo = s.lo := by unfold draw; split <;> rfl
@[simp] theorem draw_cycle : s.draw.2.cycle = s.cycle := by unfold draw; split <;> rfl
@[simp] theorem draw_cp0 : s.draw.2.cp0 = s.cp0 := by unfold draw; split <;> rfl
@[simp] theorem draw_gte : s.draw.2.gte = s.gte := by unfold draw; split <;> rfl
@[simp] theorem draw_nextEvent : s.draw.2.nextEvent = s.nextEvent := by unfold draw; split <;> rfl
@[simp] theorem draw_nextBase : s.draw.2.nextBase = s.nextBase := by unfold draw; split <;> rfl
@[simp] theorem draw_host : s.draw.2.host = s.host := by unfold draw; split <;> rfl
@[simp] theorem draw_cfg : s.draw.2.cfg = s.cfg := by unfold draw; split <;> rfl
@[simp] theorem draw_irqIn : s.draw.2.irqIn = s.irqIn := by unfold draw; split <;> rfl
@[simp] theorem draw_mem : s.draw.2.mem = s.mem := by unfold draw; split <;> rfl
@[simp] theorem draw_memEpoch : s.draw.2.memEpoch = s.memEpoch := by unfold draw; split <;> rfl
@[simp] theorem draw_tables : s.draw.2.tables = s.tables := by unfold draw; split <;> rfl
@[simp] theorem draw_inputs : s.draw.2.inputs = s.inputs := by unfold draw; split <;> rfl
@[simp] theorem draw_out : s.draw.2.out = s.out := by unfold draw; split <;> rfl
@[simp] theorem draw_readCp0 (k : RegNum) : s.draw.2.readCp0 k = s.readCp0 k := by
  unfold draw; split <;> rfl
@[simp] theorem draw_sr : s.draw.2.sr = s.sr := draw_readCp0 s _

theorem draw_of_cons {a : Answer} {rest : List Answer} (h : s.answers = a :: rest) :
    s.draw = (a, { s with answers := rest }) := by simp [draw, h]

/-- An answer is decided by the answers presented and the counter alone. -/
theorem draw_congr {s t : State} (ha : s.answers = t.answers) (hd : s.draws = t.draws) :
    s.draw.1 = t.draw.1 ∧ s.draw.2.answers = t.draw.2.answers ∧ s.draw.2.draws = t.draw.2.draws := by
  unfold draw
  rw [ha, hd]
  split
  · exact ⟨rfl, rfl, rfl⟩
  · exact ⟨rfl, rfl, rfl⟩

/-! ### The geometry-coprocessor special case (R142): only `gte` and the event list move -/

/-- What `gte` holds after step 2 for the word `w`. -/
theorem gteSpecialCase_gte (w : Word) :
    (s.gteSpecialCase w).gte =
      if s.cfg.hle = false ∧ isGteWord w = true ∧ gteIndex w ∈ s.tables.gteEntries then
        Config.gteHandler (gteIndex w) s.gte w
      else s.gte := by unfold gteSpecialCase; split <;> rfl

@[simp] theorem gteSpecialCase_x (w : Word) : (s.gteSpecialCase w).x = s.x := by
  unfold gteSpecialCase; split <;> rfl
@[simp] theorem gteSpecialCase_pc (w : Word) : (s.gteSpecialCase w).pc = s.pc := by
  unfold gteSpecialCase; split <;> rfl
@[simp] theorem gteSpecialCase_hi (w : Word) : (s.gteSpecialCase w).hi = s.hi := by
  unfold gteSpecialCase; split <;> rfl
@[simp] theorem gteSpecialCase_lo (w : Word) : (s.gteSpecialCase w).lo = s.lo := by
  unfold gteSpecialCase; split <;> rfl
@[simp] theorem gteSpecialCase_cycle (w : Word) : (s.gteSpecialCase w).cycle = s.cycle := by
  unfold gteSpecialCase; split <;> rfl
@[simp] theorem gteSpecialCase_cp0 (w : Word) : (s.gteSpecialCase w).cp0 = s.cp0 := by
  unfold gteSpecialCase; split <;> rfl
@[simp] theorem gteSpecialCase_nextEvent (w : Word) : (s.gteSpecialCase w).nextEvent = s.nextEvent := by
  unfold gteSpecialCase; split <;> rfl
@[simp] theorem gteSpecialCase_nextBase (w : Word) : (s.gteSpecialCase w).nextBase = s.nextBase := by
  unfold gteSpecialCase; split <;> rfl
@[simp] theorem gteSpecialCase_host (w : Word) : (s.gteSpecialCase w).host = s.host := by
  unfold gteSpecialCase; split <;> rfl
@[simp] theorem gteSpecialCase_cfg (w : Word) : (s.gteSpecialCase w).cfg = s.cfg := by
  unfold gteSpecialCase; split <;> rfl
@[simp] theorem gteSpecialCase_irqIn (w : Word) : (s.gteSpecialCase w).irqIn = s.irqIn := by
  unfold gteSpecialCase; split <;> rfl
@[simp] theorem gteSpecialCase_mem (w : Word) : (s.gteSpecialCase w).mem = s.mem := by
  unfold gteSpecialCase; split <;> rfl
@[simp] theorem gteSpecialCase_memEpoch (w : Word) : (s.gteSpecialCase w).memEpoch = s.memEpoch := by
  unfold gteSpecialCase; split <;> rfl
@[simp] theorem gteSpecialCase_tables (w : Word) : (s.gteSpecialCase w).tables = s.tables := by
  unfold gteSpecialCase; split <;> rfl
@[simp] theorem gteSpecialCase_answers (w : Word) : (s.gteSpecialCase w).answers = s.answers := by
  unfold gteSpecialCase; split <;> rfl
@[simp] theorem gteSpecialCase_draws (w : Word) : (s.gteSpecialCase w).draws = s.draws := by
  unfold gteSpecialCase; split <;> rfl
@[simp] theorem gteSpecialCase_inputs (w : Word) : (s.gteSpecialCase w).inputs = s.inputs := by
  unfold gteSpecialCase; split <;> rfl
@[simp] theorem gteSpecialCase_status (w : Word) :
    (s.gteSpecialCase w).out.status = s.out.status := by unfold gteSpecialCase; split <;> rfl
@[simp] theorem gteSpecialCase_readCp0 (w : Word) (k : RegNum) :
    (s.gteSpecialCase w).readCp0 k = s.readCp0 k := by unfold gteSpecialCase; split <;> rfl

/-- With HLE on the special case never runs. -/
theorem gteSpecialCase_hle {w : Word} (h : s.cfg.hle = true) : s.gteSpecialCase w = s := by
  simp [gteSpecialCase, h]

/-! ### Taking an exception (R140) -/

variable (code : Word) (bdt : Bdt)

@[simp] theorem takeException_pc : (s.takeException code bdt).pc = exceptionVector s.sr := rfl

@[simp] theorem takeException_x : (s.takeException code bdt).x = s.x := by
  simp [takeException]
@[simp] theorem takeException_hi : (s.takeException code bdt).hi = s.hi := by
  simp [takeException]
@[simp] theorem takeException_lo : (s.takeException code bdt).lo = s.lo := by
  simp [takeException]
@[simp] theorem takeException_cycle : (s.takeException code bdt).cycle = s.cycle := by
  simp [takeException]
@[simp] theorem takeException_nextEvent : (s.takeException code bdt).nextEvent = s.nextEvent := by
  simp [takeException]
@[simp] theorem takeException_nextBase : (s.takeException code bdt).nextBase = s.nextBase := by
  simp [takeException]
@[simp] theorem takeException_host : (s.takeException code bdt).host = s.host := by
  simp [takeException]
@[simp] theorem takeException_cfg : (s.takeException code bdt).cfg = s.cfg := by
  simp [takeException]
@[simp] theorem takeException_irqIn : (s.takeException code bdt).irqIn = s.irqIn := by
  simp [takeException]
@[simp] theorem takeException_mem : (s.takeException code bdt).mem = s.mem := by
  simp [takeException]
@[simp] theorem takeException_memEpoch : (s.takeException code bdt).memEpoch = s.memEpoch := by
  simp [takeException]
@[simp] theorem takeException_tables : (s.takeException code bdt).tables = s.tables := by
  simp [takeException]
@[simp] theorem takeException_answers : (s.takeException code bdt).answers = s.answers := by
  simp [takeException]
@[simp] theorem takeException_draws : (s.takeException code bdt).draws = s.draws := by
  simp [takeException]
@[simp] theorem takeException_inputs : (s.takeException code bdt).inputs = s.inputs := by
  simp [takeException]
@[simp] theorem takeException_readGpr (k : RegNum) :
    (s.takeException code bdt).readGpr k = s.readGpr k := by simp [readGpr]
@[simp] theorem takeException_status : (s.takeException code bdt).out.status = s.out.status := by
  simp [takeException]

/-- `gte` after the entry: the special case for the word fetched at the old `pc`. -/
theorem takeException_gte :
    (s.takeException code bdt).gte = (s.gteSpecialCase (s.fetch s.pc)).gte := by
  simp only [takeException, writeCp0_gte, setPc_gte, gteSpecialCase_gte]
  rfl

/-- The CP0 cells after the entry: SR, EPC and Cause as R147, R145 and R144 say, every other cell as it
was. -/
theorem takeException_readCp0 (k : RegNum) :
    (s.takeException code bdt).readCp0 k =
      if Config.cp0Sr = k then srPush s.sr
      else if Config.cp0Epc = k then epcOnEntry bdt s.pc
      else if Config.cp0Cause = k then causeOnEntry bdt s.cause code
      else s.readCp0 k := by
  simp [takeException, readCp0_writeCp0]

@[simp] theorem takeException_sr : (s.takeException code bdt).sr = srPush s.sr := by
  rw [sr, takeException_readCp0]; rfl
@[simp] theorem takeException_epc : (s.takeException code bdt).epc = epcOnEntry bdt s.pc := by
  rw [epc, takeException_readCp0]; rfl
@[simp] theorem takeException_cause :
    (s.takeException code bdt).cause = causeOnEntry bdt s.cause code := by
  rw [cause, takeException_readCp0]; rfl
@[simp] theorem takeException_prid : (s.takeException code bdt).prid = s.prid := by
  rw [prid, takeException_readCp0]; rfl

/-! ### Resetting the block (R260): what it writes is said in `resetBlock`; the rest stays -/

@[simp] theorem resetBlock_nextEvent : s.resetBlock.nextEvent = s.nextEvent := rfl
@[simp] theorem resetBlock_nextBase : s.resetBlock.nextBase = s.nextBase := rfl
@[simp] theorem resetBlock_cfg : s.resetBlock.cfg = s.cfg := rfl
@[simp] theorem resetBlock_irqIn : s.resetBlock.irqIn = s.irqIn := rfl
@[simp] theorem resetBlock_mem : s.resetBlock.mem = s.mem := rfl
@[simp] theorem resetBlock_memEpoch : s.resetBlock.memEpoch = s.memEpoch := rfl
@[simp] theorem resetBlock_tables : s.resetBlock.tables = s.tables := rfl
@[simp] theorem resetBlock_answers : s.resetBlock.answers = s.answers := rfl
@[simp] theorem resetBlock_draws : s.resetBlock.draws = s.draws := rfl
@[simp] theorem resetBlock_inputs : s.resetBlock.inputs = s.inputs := rfl
@[simp] theorem resetBlock_out : s.resetBlock.out = s.out := rfl
@[simp] theorem resetBlock_x : s.resetBlock.x = Vector.replicate 32 0#32 := rfl
@[simp] theorem resetBlock_pc : s.resetBlock.pc = Config.bootVector := rfl
@[simp] theorem resetBlock_host : s.resetBlock.host = { s.host with phase := .live } := rfl
@[simp] theorem resetBlock_sr : s.resetBlock.sr = srAfterReset s.cfg.hle := by
  simp [resetBlock, sr, readCp0_writeCp0, Config.cp0Prid, Config.cp0Sr]

end Sys2Proof.Machine.State
end

