-- ==== Sys2Proof/Laws/Scheduler.lean ====
section
/-!
SUPPORT. What the hardware-timer update and BRANCH_TEST can change, said once.
-/
namespace Sys2Proof.Machine

/-- A property that every act keeps is kept by the acts in order. -/
theorem foldl_keeps {P : State → Prop} {f : State → Act → State} (h : ∀ s a, P s → P (f s a)) :
    ∀ (acts : List Act) (s : State), P s → P (acts.foldl f s)
  | [], _, hs => hs
  | a :: acts, s, hs => foldl_keeps h acts (f s a) (h s a hs)

namespace State

variable (s : State)

/-! ### An act of the timer update moves only `nextEvent`, `nextBase` and `irqIn` (R172) -/

@[simp] theorem timerAct_x (a : Act) : (s.timerAct a).x = s.x := by
  rcases a with ⟨_ | _⟩ | _ | _ | _ <;> rfl
@[simp] theorem timerAct_pc (a : Act) : (s.timerAct a).pc = s.pc := by
  rcases a with ⟨_ | _⟩ | _ | _ | _ <;> rfl
@[simp] theorem timerAct_hi (a : Act) : (s.timerAct a).hi = s.hi := by
  rcases a with ⟨_ | _⟩ | _ | _ | _ <;> rfl
@[simp] theorem timerAct_lo (a : Act) : (s.timerAct a).lo = s.lo := by
  rcases a with ⟨_ | _⟩ | _ | _ | _ <;> rfl
@[simp] theorem timerAct_cycle (a : Act) : (s.timerAct a).cycle = s.cycle := by
  rcases a with ⟨_ | _⟩ | _ | _ | _ <;> rfl
@[simp] theorem timerAct_cp0 (a : Act) : (s.timerAct a).cp0 = s.cp0 := by
  rcases a with ⟨_ | _⟩ | _ | _ | _ <;> rfl
@[simp] theorem timerAct_gte (a : Act) : (s.timerAct a).gte = s.gte := by
  rcases a with ⟨_ | _⟩ | _ | _ | _ <;> rfl
@[simp] theorem timerAct_host (a : Act) : (s.timerAct a).host = s.host := by
  rcases a with ⟨_ | _⟩ | _ | _ | _ <;> rfl
@[simp] theorem timerAct_cfg (a : Act) : (s.timerAct a).cfg = s.cfg := by
  rcases a with ⟨_ | _⟩ | _ | _ | _ <;> rfl
@[simp] theorem timerAct_mem (a : Act) : (s.timerAct a).mem = s.mem := by
  rcases a with ⟨_ | _⟩ | _ | _ | _ <;> rfl
@[simp] theorem timerAct_memEpoch (a : Act) : (s.timerAct a).memEpoch = s.memEpoch := by
  rcases a with ⟨_ | _⟩ | _ | _ | _ <;> rfl
@[simp] theorem timerAct_tables (a : Act) : (s.timerAct a).tables = s.tables := by
  rcases a with ⟨_ | _⟩ | _ | _ | _ <;> rfl
@[simp] theorem timerAct_answers (a : Act) : (s.timerAct a).answers = s.answers := by
  rcases a with ⟨_ | _⟩ | _ | _ | _ <;> rfl
@[simp] theorem timerAct_draws (a : Act) : (s.timerAct a).draws = s.draws := by
  rcases a with ⟨_ | _⟩ | _ | _ | _ <;> rfl
@[simp] theorem timerAct_inputs (a : Act) : (s.timerAct a).inputs = s.inputs := by
  rcases a with ⟨_ | _⟩ | _ | _ | _ <;> rfl
@[simp] theorem timerAct_out (a : Act) : (s.timerAct a).out = s.out := by
  rcases a with ⟨_ | _⟩ | _ | _ | _ <;> rfl

@[simp] theorem timerActs_x (acts : List Act) : (s.timerActs acts).x = s.x :=
  foldl_keeps (P := fun t => t.x = s.x) (fun t a h => by simpa using h) acts s rfl
@[simp] theorem timerActs_pc (acts : List Act) : (s.timerActs acts).pc = s.pc :=
  foldl_keeps (P := fun t => t.pc = s.pc) (fun t a h => by simpa using h) acts s rfl
@[simp] theorem timerActs_hi (acts : List Act) : (s.timerActs acts).hi = s.hi :=
  foldl_keeps (P := fun t => t.hi = s.hi) (fun t a h => by simpa using h) acts s rfl
@[simp] theorem timerActs_lo (acts : List Act) : (s.timerActs acts).lo = s.lo :=
  foldl_keeps (P := fun t => t.lo = s.lo) (fun t a h => by simpa using h) acts s rfl
@[simp] theorem timerActs_cycle (acts : List Act) : (s.timerActs acts).cycle = s.cycle :=
  foldl_keeps (P := fun t => t.cycle = s.cycle) (fun t a h => by simpa using h) acts s rfl
@[simp] theorem timerActs_cp0 (acts : List Act) : (s.timerActs acts).cp0 = s.cp0 :=
  foldl_keeps (P := fun t => t.cp0 = s.cp0) (fun t a h => by simpa using h) acts s rfl
@[simp] theorem timerActs_gte (acts : List Act) : (s.timerActs acts).gte = s.gte :=
  foldl_keeps (P := fun t => t.gte = s.gte) (fun t a h => by simpa using h) acts s rfl
@[simp] theorem timerActs_host (acts : List Act) : (s.timerActs acts).host = s.host :=
  foldl_keeps (P := fun t => t.host = s.host) (fun t a h => by simpa using h) acts s rfl
@[simp] theorem timerActs_cfg (acts : List Act) : (s.timerActs acts).cfg = s.cfg :=
  foldl_keeps (P := fun t => t.cfg = s.cfg) (fun t a h => by simpa using h) acts s rfl
@[simp] theorem timerActs_mem (acts : List Act) : (s.timerActs acts).mem = s.mem :=
  foldl_keeps (P := fun t => t.mem = s.mem) (fun t a h => by simpa using h) acts s rfl
@[simp] theorem timerActs_memEpoch (acts : List Act) : (s.timerActs acts).memEpoch = s.memEpoch :=
  foldl_keeps (P := fun t => t.memEpoch = s.memEpoch) (fun t a h => by simpa using h) acts s rfl
@[simp] theorem timerActs_tables (acts : List Act) : (s.timerActs acts).tables = s.tables :=
  foldl_keeps (P := fun t => t.tables = s.tables) (fun t a h => by simpa using h) acts s rfl
@[simp] theorem timerActs_answers (acts : List Act) : (s.timerActs acts).answers = s.answers :=
  foldl_keeps (P := fun t => t.answers = s.answers) (fun t a h => by simpa using h) acts s rfl
@[simp] theorem timerActs_draws (acts : List Act) : (s.timerActs acts).draws = s.draws :=
  foldl_keeps (P := fun t => t.draws = s.draws) (fun t a h => by simpa using h) acts s rfl
@[simp] theorem timerActs_inputs (acts : List Act) : (s.timerActs acts).inputs = s.inputs :=
  foldl_keeps (P := fun t => t.inputs = s.inputs) (fun t a h => by simpa using h) acts s rfl
@[simp] theorem timerActs_out (acts : List Act) : (s.timerActs acts).out = s.out :=
  foldl_keeps (P := fun t => t.out = s.out) (fun t a h => by simpa using h) acts s rfl

/-! ### The timer update and the comparator -/

@[simp] theorem timerAnswer_x : s.timerAnswer.x = s.x := by simp [timerAnswer]
@[simp] theorem timerAnswer_pc : s.timerAnswer.pc = s.pc := by simp [timerAnswer]
@[simp] theorem timerAnswer_hi : s.timerAnswer.hi = s.hi := by simp [timerAnswer]
@[simp] theorem timerAnswer_lo : s.timerAnswer.lo = s.lo := by simp [timerAnswer]
@[simp] theorem timerAnswer_cycle : s.timerAnswer.cycle = s.cycle := by simp [timerAnswer]
@[simp] theorem timerAnswer_cp0 : s.timerAnswer.cp0 = s.cp0 := by simp [timerAnswer]
@[simp] theorem timerAnswer_gte : s.timerAnswer.gte = s.gte := by simp [timerAnswer]
@[simp] theorem timerAnswer_host : s.timerAnswer.host = s.host := by simp [timerAnswer]
@[simp] theorem timerAnswer_cfg : s.timerAnswer.cfg = s.cfg := by simp [timerAnswer]
@[simp] theorem timerAnswer_mem : s.timerAnswer.mem = s.mem := by simp [timerAnswer]
@[simp] theorem timerAnswer_memEpoch : s.timerAnswer.memEpoch = s.memEpoch := by simp [timerAnswer]
@[simp] theorem timerAnswer_tables : s.timerAnswer.tables = s.tables := by simp [timerAnswer]
@[simp] theorem timerAnswer_inputs : s.timerAnswer.inputs = s.inputs := by simp [timerAnswer]
@[simp] theorem timerAnswer_out : s.timerAnswer.out = s.out := by simp [timerAnswer]
@[simp] theorem timerUpdate_x : s.timerUpdate.x = s.x := by simp [timerUpdate]
@[simp] theorem timerUpdate_pc : s.timerUpdate.pc = s.pc := by simp [timerUpdate]
@[simp] theorem timerUpdate_hi : s.timerUpdate.hi = s.hi := by simp [timerUpdate]
@[simp] theorem timerUpdate_lo : s.timerUpdate.lo = s.lo := by simp [timerUpdate]
@[simp] theorem timerUpdate_cycle : s.timerUpdate.cycle = s.cycle := by simp [timerUpdate]
@[simp] theorem timerUpdate_cp0 : s.timerUpdate.cp0 = s.cp0 := by simp [timerUpdate]
@[simp] theorem timerUpdate_gte : s.timerUpdate.gte = s.gte := by simp [timerUpdate]
@[simp] theorem timerUpdate_host : s.timerUpdate.host = s.host := by simp [timerUpdate]
@[simp] theorem timerUpdate_cfg : s.timerUpdate.cfg = s.cfg := by simp [timerUpdate]
@[simp] theorem timerUpdate_mem : s.timerUpdate.mem = s.mem := by simp [timerUpdate]
@[simp] theorem timerUpdate_memEpoch : s.timerUpdate.memEpoch = s.memEpoch := by simp [timerUpdate]
@[simp] theorem timerUpdate_tables : s.timerUpdate.tables = s.tables := by simp [timerUpdate]
@[simp] theorem timerUpdate_inputs : s.timerUpdate.inputs = s.inputs := by simp [timerUpdate]
@[simp] theorem timerUpdate_out :
    s.timerUpdate.out = { s.out with events := s.out.events ++ [.timerUpdate] } := by
  simp [timerUpdate]

theorem timerTest_due (h : timerDue s.cycle s.nextBase s.nextEvent = true) :
    s.timerTest = s.timerUpdate := by simp [timerTest, h]

theorem timerTest_not_due (h : timerDue s.cycle s.nextBase s.nextEvent = false) :
    s.timerTest = s := by simp [timerTest, h]

@[simp] theorem timerTest_x : s.timerTest.x = s.x := by unfold timerTest; split <;> simp
@[simp] theorem timerTest_pc : s.timerTest.pc = s.pc := by unfold timerTest; split <;> simp
@[simp] theorem timerTest_hi : s.timerTest.hi = s.hi := by unfold timerTest; split <;> simp
@[simp] theorem timerTest_lo : s.timerTest.lo = s.lo := by unfold timerTest; split <;> simp
@[simp] theorem timerTest_cycle : s.timerTest.cycle = s.cycle := by unfold timerTest; split <;> simp
@[simp] theorem timerTest_cp0 : s.timerTest.cp0 = s.cp0 := by unfold timerTest; split <;> simp
@[simp] theorem timerTest_gte : s.timerTest.gte = s.gte := by unfold timerTest; split <;> simp
@[simp] theorem timerTest_host : s.timerTest.host = s.host := by unfold timerTest; split <;> simp
@[simp] theorem timerTest_cfg : s.timerTest.cfg = s.cfg := by unfold timerTest; split <;> simp
@[simp] theorem timerTest_mem : s.timerTest.mem = s.mem := by unfold timerTest; split <;> simp
@[simp] theorem timerTest_memEpoch : s.timerTest.memEpoch = s.memEpoch := by unfold timerTest; split <;> simp
@[simp] theorem timerTest_tables : s.timerTest.tables = s.tables := by unfold timerTest; split <;> simp
@[simp] theorem timerTest_inputs : s.timerTest.inputs = s.inputs := by unfold timerTest; split <;> simp
@[simp] theorem timerTest_readCp0 (k : RegNum) : s.timerTest.readCp0 k = s.readCp0 k := by
  simp [readCp0]
@[simp] theorem timerTest_sr : s.timerTest.sr = s.sr := timerTest_readCp0 s _
@[simp] theorem timerTest_status : s.timerTest.out.status = s.out.status := by
  unfold timerTest; split <;> simp

/-! ### The interrupt evaluation -/

theorem interruptTest_none (h : s.interruptRequest = none) :
    s.interruptTest = s.emit .intEval := by simp [interruptTest, h]

theorem interruptTest_some {code : Word} {bdt : Bdt} (h : s.interruptRequest = some (code, bdt)) :
    s.interruptTest = (s.emit .intEval).takeException code bdt := by simp [interruptTest, h]

@[simp] theorem interruptTest_x : s.interruptTest.x = s.x := by
  unfold interruptTest; split <;> simp
@[simp] theorem interruptTest_hi : s.interruptTest.hi = s.hi := by
  unfold interruptTest; split <;> simp
@[simp] theorem interruptTest_lo : s.interruptTest.lo = s.lo := by
  unfold interruptTest; split <;> simp
@[simp] theorem interruptTest_cycle : s.interruptTest.cycle = s.cycle := by
  unfold interruptTest; split <;> simp
@[simp] theorem interruptTest_nextEvent : s.interruptTest.nextEvent = s.nextEvent := by
  unfold interruptTest; split <;> simp
@[simp] theorem interruptTest_nextBase : s.interruptTest.nextBase = s.nextBase := by
  unfold interruptTest; split <;> simp
@[simp] theorem interruptTest_host : s.interruptTest.host = s.host := by
  unfold interruptTest; split <;> simp
@[simp] theorem interruptTest_cfg : s.interruptTest.cfg = s.cfg := by
  unfold interruptTest; split <;> simp
@[simp] theorem interruptTest_irqIn : s.interruptTest.irqIn = s.irqIn := by
  unfold interruptTest; split <;> simp
@[simp] theorem interruptTest_mem : s.interruptTest.mem = s.mem := by
  unfold interruptTest; split <;> simp
@[simp] theorem interruptTest_memEpoch : s.interruptTest.memEpoch = s.memEpoch := by
  unfold interruptTest; split <;> simp
@[simp] theorem interruptTest_tables : s.interruptTest.tables = s.tables := by
  unfold interruptTest; split <;> simp
@[simp] theorem interruptTest_answers : s.interruptTest.answers = s.answers := by
  unfold interruptTest; split <;> simp
@[simp] theorem interruptTest_draws : s.interruptTest.draws = s.draws := by
  unfold interruptTest; split <;> simp
@[simp] theorem interruptTest_inputs : s.interruptTest.inputs = s.inputs := by
  unfold interruptTest; split <;> simp
@[simp] theorem interruptTest_status : s.interruptTest.out.status = s.out.status := by
  unfold interruptTest; split <;> simp

/-! ### BRANCH_TEST (R170, R175) -/

@[simp] theorem branchTest_x : s.branchTest.x = s.x := by simp [branchTest]
@[simp] theorem branchTest_hi : s.branchTest.hi = s.hi := by simp [branchTest]
@[simp] theorem branchTest_lo : s.branchTest.lo = s.lo := by simp [branchTest]
@[simp] theorem branchTest_cycle : s.branchTest.cycle = s.cycle := by simp [branchTest]
@[simp] theorem branchTest_host : s.branchTest.host = s.host := by simp [branchTest]
@[simp] theorem branchTest_cfg : s.branchTest.cfg = s.cfg := by simp [branchTest]
@[simp] theorem branchTest_mem : s.branchTest.mem = s.mem := by simp [branchTest]
@[simp] theorem branchTest_memEpoch : s.branchTest.memEpoch = s.memEpoch := by simp [branchTest]
@[simp] theorem branchTest_tables : s.branchTest.tables = s.tables := by simp [branchTest]
@[simp] theorem branchTest_inputs : s.branchTest.inputs = s.inputs := by simp [branchTest]
@[simp] theorem branchTest_status : s.branchTest.out.status = s.out.status := by simp [branchTest]

end State
end Sys2Proof.Machine
end

