-- ==== Sys2Proof/Laws/Agents.lean ====
section
/-!
SUPPORT. What no command of a collaborator can change, said once: a block command, a firmware handler, a
backend block and the boot-state installer carry the rest of the machine along.
-/
namespace Sys2Proof.Machine

/-- The calls a block command makes. -/
def Event.ofBlock : Event → Bool
  | .fetch _ | .gteHandler _ _ | .timerUpdate | .intEval => true
  | .memInit | .memReset | .memShutdown | .backendInit | .backendApplyConfig | .backendReset
  | .backendShutdown | .executeBlock _ | .hwReset | .firmwareInit | .firmwareShutdown
  | .tryIntroBypass | .setupHleBootState | .fwHandler _ _ | .log _ _
  | .nonStandardFirmware _ _ => false

/-- The calls a backend block makes: a block command's, and JUMP_TEST's. -/
def Event.ofBackend : Event → Bool
  | .fwHandler _ _ | .log _ _ => true
  | .fetch a => Event.ofBlock (.fetch a)
  | .gteHandler k w => Event.ofBlock (.gteHandler k w)
  | .timerUpdate => Event.ofBlock .timerUpdate
  | .intEval => Event.ofBlock .intEval
  | .memInit | .memReset | .memShutdown | .backendInit | .backendApplyConfig | .backendReset
  | .backendShutdown | .executeBlock _ | .hwReset | .firmwareInit | .firmwareShutdown
  | .tryIntroBypass | .setupHleBootState | .nonStandardFirmware _ _ => false

theorem Event.ofBackend_of_ofBlock {e : Event} (h : e.ofBlock = true) : e.ofBackend = true := by
  cases e <;> first | rfl | cases h

/-- What is carried from `s` to `t` by commands whose calls satisfy `p`: everything outside the block but
the interrupt request, memory, the answers and the timing-fix value; memory's canonical form and the cell
of `x[0]`; and a live block stays live. -/
structure Carries (p : Event → Bool) (s t : State) : Prop where
  tables : t.tables = s.tables
  inputs : t.inputs = s.inputs
  memEpoch : t.memEpoch = s.memEpoch
  cfg : ∃ v, t.cfg = { s.cfg with timingFix := v }
  host : ∃ ph, t.host = { s.host with phase := ph }
  phase : t.host.phase = s.host.phase ∨ t.host.phase = .live
  status : t.out.status = s.out.status
  rdata : t.out.rdata = s.out.rdata
  hostStatus : t.out.hostStatus = s.out.hostStatus
  events : ∃ es, t.out.events = s.out.events ++ es ∧ ∀ e ∈ es, p e = true
  mem : Memory.wf s.mem = true → Memory.wf t.mem = true
  zero : s.x[0] = 0#32 → t.x[0] = 0#32

/-- What a backend block can do with a command: JUMP_TEST, nothing, or a block command's effect. -/
theorem State.backendCommand_cases (s : State) (i : Instr) :
    (i = .jumpTest ∧ s.backendCommand i = s.jumpTest) ∨ s.backendCommand i = s ∨
      s.backendCommand i = s.blockCommand i := by
  cases i <;>
    first | exact .inl ⟨rfl, rfl⟩ | exact .inr (.inl rfl) | exact .inr (.inr rfl)

namespace Carries

variable {p q : Event → Bool} {s t u : State}

theorem refl (s : State) : Carries p s s :=
  ⟨rfl, rfl, rfl, ⟨_, rfl⟩, ⟨_, rfl⟩, .inl rfl, rfl, rfl, rfl, ⟨[], by simp⟩, id, id⟩

theorem trans (h : Carries p s t) (k : Carries p t u) : Carries p s u where
  tables := k.tables.trans h.tables
  inputs := k.inputs.trans h.inputs
  memEpoch := k.memEpoch.trans h.memEpoch
  cfg := by
    obtain ⟨v, hv⟩ := h.cfg
    obtain ⟨w, kw⟩ := k.cfg
    exact ⟨w, by rw [kw, hv]⟩
  host := by
    obtain ⟨v, hv⟩ := h.host
    obtain ⟨w, kw⟩ := k.host
    exact ⟨w, by rw [kw, hv]⟩
  phase := by
    rcases k.phase with kp | kp
    · rw [kp]; exact h.phase
    · exact .inr kp
  status := k.status.trans h.status
  rdata := k.rdata.trans h.rdata
  hostStatus := k.hostStatus.trans h.hostStatus
  events := by
    obtain ⟨es, h1, h2⟩ := h.events
    obtain ⟨fs, k1, k2⟩ := k.events
    refine ⟨es ++ fs, by rw [k1, h1, List.append_assoc], fun e he => ?_⟩
    rcases List.mem_append.1 he with he | he
    · exact h2 e he
    · exact k2 e he
  mem := k.mem ∘ h.mem
  zero := k.zero ∘ h.zero

theorem live (h : Carries p s t) (hs : s.Live) : t.Live := by
  rcases h.phase with hp | hp
  · exact hp.trans hs
  · exact hp

theorem mono (hpq : ∀ e, p e = true → q e = true) (h : Carries p s t) : Carries q s t :=
  ⟨h.tables, h.inputs, h.memEpoch, h.cfg, h.host, h.phase, h.status, h.rdata, h.hostStatus,
    let ⟨es, h1, h2⟩ := h.events
    ⟨es, h1, fun e he => hpq e (h2 e he)⟩,
    h.mem, h.zero⟩

/-- A block command's calls are calls of a backend block. -/
theorem ofBackend (h : Carries Event.ofBlock s t) : Carries Event.ofBackend s t :=
  h.mono fun _ => Event.ofBackend_of_ofBlock

/-- Acts in order carry what each act carries. -/
theorem foldl {f : State → Act → State} (h : ∀ s a, Carries p s (f s a)) (acts : List Act)
    (s : State) : Carries p s (acts.foldl f s) :=
  foldl_keeps (P := fun t => Carries p s t) (fun t a ht => ht.trans (h t a)) acts s (refl s)

/-- An update of the block's own registers, the interrupt request or the answers alone. -/
theorem of_eq (h1 : t.tables = s.tables) (h2 : t.inputs = s.inputs) (h3 : t.memEpoch = s.memEpoch)
    (h4 : t.cfg = s.cfg) (h5 : t.host = s.host) (h6 : t.out = s.out) (h7 : t.mem = s.mem)
    (h8 : s.x[0] = 0#32 → t.x[0] = 0#32) : Carries p s t :=
  ⟨h1, h2, h3, ⟨_, h4⟩, ⟨_, h5⟩, by rw [h5]; exact .inl rfl, by rw [h6], by rw [h6], by rw [h6],
    ⟨[], by simp [h6]⟩, by rw [h7]; exact id, h8⟩

theorem emit {e : Event} (h : p e = true) (s : State) : Carries p s (s.emit e) :=
  ⟨rfl, rfl, rfl, ⟨_, rfl⟩, ⟨_, rfl⟩, .inl rfl, rfl, rfl, rfl, ⟨[e], rfl, by simpa using h⟩, id, id⟩

theorem draw (s : State) : Carries p s s.draw.2 := of_eq (by simp) (by simp) (by simp) (by simp)
  (by simp) (by simp) (by simp) (by simp)

theorem setIrq (s : State) (v : IrqIn) : Carries p s (s.setIrq v) :=
  of_eq rfl rfl rfl rfl rfl rfl rfl id

theorem setGte (s : State) (g : GteRegs) : Carries p s (s.setGte g) :=
  of_eq rfl rfl rfl rfl rfl rfl rfl id

theorem writeCp0 (s : State) (n : RegNum) (v : Word) : Carries p s (s.writeCp0 n v) :=
  of_eq rfl rfl rfl rfl rfl rfl rfl id

theorem setPc (s : State) (v : Word) : Carries p s (s.setPc v) := of_eq rfl rfl rfl rfl rfl rfl rfl id

theorem writeGpr (s : State) (n : RegNum) (v : Word) : Carries p s (s.writeGpr n v) := by
  refine of_eq (by simp) (by simp) (by simp) (by simp) (by simp) (by simp) (by simp) (fun h => ?_)
  by_cases hn : n = 0#5
  · subst hn; exact h
  · rw [State.writeGpr_of_ne s hn]
    have : n.toNat ≠ 0 := fun h0 => hn (BitVec.eq_of_toNat_eq h0)
    simpa [Vector.getElem_set, this] using h

theorem setByte (s : State) (a : Word) (b : Byte) : Carries p s (s.setByte a b) :=
  { refl (p := p) s with mem := State.setByte_wf a b }

theorem setTimingFix (s : State) (v : Nat) : Carries p s (s.setTimingFix v) :=
  { refl (p := p) s with cfg := ⟨v, rfl⟩ }

theorem resetBlock (s : State) : Carries p s s.resetBlock :=
  { refl (p := p) s with host := ⟨.live, rfl⟩, phase := .inr rfl, zero := fun _ => rfl }

theorem gteSpecialCase (s : State) (w : Word) : Carries Event.ofBlock s (s.gteSpecialCase w) := by
  unfold State.gteSpecialCase
  split
  · exact (setGte s _).trans (emit (p := Event.ofBlock) (e := .gteHandler (gteIndex w) w) rfl _)
  · exact refl s

theorem takeException (s : State) (code : Word) (bdt : Bdt) :
    Carries Event.ofBlock s (s.takeException code bdt) :=
  (((((emit rfl s).trans (gteSpecialCase _ _)).trans (writeCp0 _ _ _)).trans
    (writeCp0 _ _ _)).trans (setPc _ _)).trans (writeCp0 _ _ _)

theorem timerAnswer (s : State) : Carries p s s.timerAnswer :=
  of_eq (by simp) (by simp) (by simp) (by simp) (by simp) (by simp) (by simp) (by simp)

theorem branchTest (s : State) : Carries Event.ofBlock s s.branchTest := by
  have h : Carries Event.ofBlock s s.timerTest := by
    unfold State.timerTest
    split
    · exact (emit rfl s).trans (timerAnswer _)
    · exact refl s
  refine h.trans ?_
  rw [State.branchTest]
  unfold State.interruptTest
  split
  · exact emit rfl _
  · exact (emit rfl _).trans (takeException _ _ _)

theorem blockCommand (s : State) (i : Instr) : Carries Event.ofBlock s (s.blockCommand i) := by
  cases i with
  | wrGpr n v => exact writeGpr s n v
  | wrCp0 n v => exact writeCp0 s n v
  | raise code bdt => exact takeException s code bdt
  | branchTest => exact branchTest s
  | resetState => exact resetBlock s
  | _ => exact of_eq rfl rfl rfl rfl rfl rfl rfl id

theorem handlerAct (s : State) (a : Act) : Carries Event.ofBlock s (s.handlerAct a) := by
  cases a with
  | command i => exact blockCommand s i
  | setByte a b => exact setByte s a b
  | irq v => exact setIrq s v
  | timingFix _ => exact refl s

theorem setupAct (s : State) (a : Act) : Carries Event.ofBlock s (s.setupAct a) :=
  (handlerAct s a).trans (writeCp0 _ _ _)

theorem outsideAct (s : State) (a : Act) : Carries p s (s.outsideAct a) := by
  cases a with
  | command _ => exact refl s
  | setByte a b => exact setByte s a b
  | irq v => exact setIrq s v
  | timingFix _ => exact refl s

theorem jumpTest (s : State) : Carries Event.ofBackend s s.jumpTest := by
  unfold State.jumpTest
  split
  · exact refl s
  · rename_i t n _
    refine trans ?_ (((emit (by rfl) _).trans (draw _)).trans
      (foldl handlerAct _ _).ofBackend)
    unfold State.logCall
    split
    · exact emit rfl s
    · exact refl s

theorem backendCommand (s : State) (i : Instr) : Carries Event.ofBackend s (s.backendCommand i) := by
  rcases s.backendCommand_cases i with ⟨_, h⟩ | h | h <;> rw [h]
  · exact jumpTest s
  · exact refl s
  · exact (blockCommand s i).ofBackend

theorem backendAct (s : State) (a : Act) : Carries Event.ofBackend s (s.backendAct a) := by
  cases a with
  | command i => exact backendCommand s i
  | setByte a b => exact setByte s a b
  | irq v => exact setIrq s v
  | timingFix v => exact setTimingFix s v

end Carries

/-- A backend block: its own call, then its commands. -/
theorem executeBlock_carries (s : State) (r : BlockReason) :
    Carries Event.ofBackend (s.emit (.executeBlock r)) (s.executeBlock r) :=
  (Carries.draw _).trans (Carries.foldl Carries.backendAct _ _)

/-- Only a backend block's act can write a configuration input, and then the timing-fix value. -/
theorem handlerAct_cfg (s : State) (a : Act) : (s.handlerAct a).cfg = s.cfg := by
  cases a with
  | command i => cases i <;> simp [State.handlerAct, State.blockCommand]
  | _ => rfl

theorem handlerActs_cfg (acts : List Act) (s : State) : (s.handlerActs acts).cfg = s.cfg :=
  foldl_keeps (P := fun t => t.cfg = s.cfg) (fun t a h => (handlerAct_cfg t a).trans h) acts s rfl

theorem setupActs_cfg (acts : List Act) (s : State) : (s.setupActs acts).cfg = s.cfg :=
  foldl_keeps (P := fun t => t.cfg = s.cfg)
    (fun t a h => by simpa [State.setupAct] using (handlerAct_cfg t a).trans h) acts s rfl

theorem outsideActs_cfg (acts : List Act) (s : State) : (s.outsideActs acts).cfg = s.cfg :=
  foldl_keeps (P := fun t => t.cfg = s.cfg) (fun t a h => by cases a <;> exact h) acts s rfl

end Sys2Proof.Machine
end

