-- ==== Sys2Proof/Laws/Encoding.lean ====
section
/-!
SUPPORT. The fields of a command word (`30_encoding.md` R81): each reads back from the word built of them,
a word with `rsv = 0` is its fields, and a mask acts field by field (R84).
-/
namespace Sys2Proof

section Fields

variable (op : BitVec 5) (idx : RegNum) (bdt : Bdt) (data : Word)

@[simp] theorem cmdOp_cmdWord : cmdOp (cmdWord op idx bdt data) = op := by
  apply BitVec.eq_of_getLsbD_eq
  intro i hi
  simp only [cmdOp, cmdWord, BitVec.getLsbD_extractLsb', BitVec.getLsbD_append]
  rw [if_neg (by omega), if_neg (by omega), if_neg (by omega), if_neg (by omega),
    (by omega : 43 + i - 32 - 4 - 2 - 5 = i)]
  simp [hi]

@[simp] theorem cmdIdx_cmdWord : cmdIdx (cmdWord op idx bdt data) = idx := by
  apply BitVec.eq_of_getLsbD_eq
  intro i hi
  simp only [cmdIdx, cmdWord, BitVec.getLsbD_extractLsb', BitVec.getLsbD_append]
  rw [if_neg (by omega), if_neg (by omega), if_neg (by omega), if_pos (by omega),
    (by omega : 38 + i - 32 - 4 - 2 = i)]
  simp [hi]

@[simp] theorem cmdBdt_cmdWord : cmdBdt (cmdWord op idx bdt data) = bdt := by
  apply BitVec.eq_of_getLsbD_eq
  intro i hi
  simp only [cmdBdt, cmdWord, BitVec.getLsbD_extractLsb', BitVec.getLsbD_append]
  rw [if_neg (by omega), if_neg (by omega), if_pos (by omega), (by omega : 36 + i - 32 - 4 = i)]
  simp [hi]

@[simp] theorem cmdRsv_cmdWord : cmdRsv (cmdWord op idx bdt data) = 0#4 := by
  apply BitVec.eq_of_getLsbD_eq
  intro i hi
  simp only [cmdRsv, cmdWord, BitVec.getLsbD_extractLsb', BitVec.getLsbD_append]
  rw [if_neg (by omega), if_pos (by omega)]
  simp

@[simp] theorem cmdData_cmdWord : cmdData (cmdWord op idx bdt data) = data := by
  apply BitVec.eq_of_getLsbD_eq
  intro i hi
  simp only [cmdData, cmdWord, BitVec.getLsbD_extractLsb', BitVec.getLsbD_append]
  rw [if_pos (by omega)]
  simp [hi]

end Fields

/-- A word is the concatenation of its fields. -/
theorem word_eq_fields (cw : CmdWord) :
    cw = cmdOp cw ++ cmdIdx cw ++ cmdBdt cw ++ cmdRsv cw ++ cmdData cw := by
  apply BitVec.eq_of_getLsbD_eq
  intro i hi
  simp only [cmdOp, cmdIdx, cmdBdt, cmdRsv, cmdData, BitVec.getLsbD_append,
    BitVec.getLsbD_extractLsb']
  split
  · simp [*]
  split
  · simp [*, (by omega : 32 + (i - 32) = i)]
  split
  · simp [*, (by omega : 36 + (i - 32 - 4) = i)]
  split
  · simp [*, (by omega : 38 + (i - 32 - 4 - 2) = i)]
  · simp [*, (by omega : i - 32 - 4 - 2 - 5 < 5), (by omega : 43 + (i - 32 - 4 - 2 - 5) = i)]

/-- A word whose reserved bits are zero is built of its fields. -/
theorem cmdWord_fields {cw : CmdWord} (h : cmdRsv cw = 0#4) :
    cmdWord (cmdOp cw) (cmdIdx cw) (cmdBdt cw) (cmdData cw) = cw := by
  conv_rhs => rw [word_eq_fields cw, h]
  rfl

/-- Concatenations of the same widths are equal iff their parts are. -/
theorem append_eq_append {n m : Nat} {a c : BitVec n} {b d : BitVec m} :
    a ++ b = c ++ d ↔ a = c ∧ b = d := by
  refine ⟨fun h => ⟨?_, ?_⟩, fun ⟨h1, h2⟩ => by rw [h1, h2]⟩
  · apply BitVec.eq_of_getLsbD_eq
    intro i hi
    have := congrArg (fun z => z.getLsbD (m + i)) h
    simpa [BitVec.getLsbD_append] using this
  · apply BitVec.eq_of_getLsbD_eq
    intro i hi
    have := congrArg (fun z => z.getLsbD i) h
    simpa [BitVec.getLsbD_append, hi] using this

/-- A mask given field by field acts field by field. -/
theorem and_fields (cw : CmdWord) (op : BitVec 5) (idx : RegNum) (bdt : Bdt) (rsv : BitVec 4)
    (data : Word) :
    cw &&& (op ++ idx ++ bdt ++ rsv ++ data) =
      (cmdOp cw &&& op) ++ (cmdIdx cw &&& idx) ++ (cmdBdt cw &&& bdt) ++ (cmdRsv cw &&& rsv) ++
        (cmdData cw &&& data) := by
  conv_lhs => rw [word_eq_fields cw]
  refine (BitVec.and_append (w := 16) (v := 32)).trans (congrArg (· ++ _) ?_)
  refine (BitVec.and_append (w := 12) (v := 4)).trans (congrArg (· ++ _) ?_)
  refine (BitVec.and_append (w := 10) (v := 2)).trans (congrArg (· ++ _) ?_)
  exact BitVec.and_append (w := 5) (v := 5)

/-- What a command that is decoded says about its fields. -/
theorem ifUnusedZero_ok {b : Bool} {i j : Instr} (h : ifUnusedZero b i = .ok j) :
    b = true ∧ i = j := by
  unfold ifUnusedZero at h
  split at h
  · injection h with h
    exact ⟨by assumption, h⟩
  · cases h

/-- The opcode as a numeral. -/
theorem cmdOp_of_toNat {cw : CmdWord} {n : Nat} (h : (cmdOp cw).toNat = n) :
    cmdOp cw = BitVec.ofNat 5 n := by
  rw [← h, BitVec.ofNat_toNat, BitVec.setWidth_eq]

end Sys2Proof
end

