-- ==== Sys2Proof/Laws/Flags.lean ====
section
/-!
SUPPORT. SR and Cause bit by bit: the status-register push (`41_exception_dispatch.md` R147) and the new
cause register (R144).
-/
namespace Sys2Proof.Machine

/-- Bits 31:6 stay, bits 5:2 are the old bits 3:0, bits 1:0 are 0 (R147). -/
theorem srPush_getLsbD (sr : Word) {k : Nat} (hk : k < 32) :
    (srPush sr).getLsbD k =
      if k < 2 then false else if k < 6 then sr.getLsbD (k - 2) else sr.getLsbD k := by
  have hhigh : ∀ k < 32, (~~~0x3F#32).getLsbD k = decide (6 ≤ k) := by decide
  have hlow : ∀ k < 32, (0xF#32).getLsbD k = decide (k < 4) := by decide
  simp only [srPush, BitVec.getLsbD_or, BitVec.getLsbD_and, BitVec.getLsbD_shiftLeft, hhigh k hk]
  by_cases h2 : k < 2
  · rw [decide_eq_false (by omega : ¬ 6 ≤ k), if_pos h2]
    simp [h2]
  rw [hlow (k - 2) (by omega), if_neg h2]
  by_cases h6 : k < 6
  · rw [decide_eq_false (by omega : ¬ 6 ≤ k), decide_eq_true (by omega : k - 2 < 4), if_pos h6]
    simp [h2, hk]
  · rw [decide_eq_true (by omega : 6 ≤ k), decide_eq_false (by omega : ¬ k - 2 < 4), if_neg h6]
    simp

/-- The bits of the old cause register that an entry keeps: 10 to 8 (R144). -/
theorem causeKeep_getLsbD (old : Word) {k : Nat} (hk : k < 32) :
    (old &&& Config.causeKeepMask).getLsbD k = (decide (8 ≤ k ∧ k ≤ 10) && old.getLsbD k) := by
  have hmask : ∀ k < 32, Config.causeKeepMask.getLsbD k = decide (8 ≤ k ∧ k ≤ 10) := by decide
  rw [BitVec.getLsbD_and, hmask k hk, Bool.and_comm]

/-- The bits the branch-delay indicator sets: 31 and 30 (R144). -/
theorem bdtBits_getLsbD (bdt : Bdt) {k : Nat} (hk : k < 32) :
    ((bdt.setWidth 32 : Word) <<< Config.bdtShift).getLsbD k =
      ((decide (k = 31) && bdt.getLsbD 1) || (decide (k = 30) && bdt.getLsbD 0)) := by
  have h : ∀ bdt : Bdt, ∀ k < 32, ((bdt.setWidth 32 : Word) <<< Config.bdtShift).getLsbD k =
      ((decide (k = 31) && bdt.getLsbD 1) || (decide (k = 30) && bdt.getLsbD 0)) := by decide
  exact h bdt k hk

end Sys2Proof.Machine
end

