-- ==== Sys2Proof/Laws/Outputs.lean ====
section
/-!
SUPPORT. The outputs of earlier calls never influence what a command does: from states that differ in
`out` alone, every operation leads to states that differ in `out` alone.
-/
namespace Sys2Proof.Machine

/-- `t` is `s` but for the outputs. -/
def SameButOut (s t : State) : Prop := ∃ o, t = { s with out := o }

namespace SameButOut

variable {s t : State}

theorem refl (s : State) : SameButOut s s := ⟨s.out, rfl⟩

theorem trans {u : State} (h : SameButOut s t) (k : SameButOut t u) : SameButOut s u := by
  obtain ⟨o, rfl⟩ := h
  obtain ⟨o', rfl⟩ := k
  exact ⟨o', rfl⟩

/-- The form in which statements say it. -/
theorem eq (h : SameButOut s t) : t = { s with out := t.out } := by
  obtain ⟨o, rfl⟩ := h
  rfl

theorem emit (s : State) (e : Event) : SameButOut s (s.emit e) := ⟨_, rfl⟩

theorem emit_emit (h : SameButOut s t) (e e' : Event) : SameButOut (s.emit e) (t.emit e') := by
  obtain ⟨o, rfl⟩ := h
  exact ⟨_, rfl⟩

theorem draw (h : SameButOut s t) : s.draw.1 = t.draw.1 ∧ SameButOut s.draw.2 t.draw.2 := by
  obtain ⟨o, rfl⟩ := h
  unfold State.draw
  rcases s.answers with _ | ⟨a, rest⟩ <;> exact ⟨rfl, o, rfl⟩

theorem writeGpr (h : SameButOut s t) (n : RegNum) (v : Word) :
    SameButOut (s.writeGpr n v) (t.writeGpr n v) := by
  obtain ⟨o, rfl⟩ := h
  unfold State.writeGpr
  split <;> exact ⟨o, rfl⟩

theorem gteSpecialCase (h : SameButOut s t) (w : Word) :
    SameButOut (s.gteSpecialCase w) (t.gteSpecialCase w) := by
  obtain ⟨o, rfl⟩ := h
  unfold State.gteSpecialCase
  split <;> exact ⟨_, rfl⟩

theorem takeException (h : SameButOut s t) (code : Word) (bdt : Bdt) :
    SameButOut (s.takeException code bdt) (t.takeException code bdt) := by
  have hg := gteSpecialCase (emit_emit h (.fetch s.pc) (.fetch s.pc)) (s.fetch s.pc)
  obtain ⟨o, rfl⟩ := h
  obtain ⟨o', ho'⟩ := hg
  refine ⟨o', ?_⟩
  unfold State.takeException
  simp only [show State.fetch { s with out := o } s.pc = s.fetch s.pc from rfl, ho']
  rfl

theorem timerAct (h : SameButOut s t) (a : Act) : SameButOut (s.timerAct a) (t.timerAct a) := by
  obtain ⟨o, rfl⟩ := h
  rcases a with ⟨_ | _⟩ | _ | _ | _ <;> exact ⟨o, rfl⟩

/-- Acts in order. -/
theorem foldl {f : State → Act → State}
    (hf : ∀ {s t : State} (a : Act), SameButOut s t → SameButOut (f s a) (f t a)) :
    ∀ (acts : List Act) {s t : State}, SameButOut s t → SameButOut (acts.foldl f s) (acts.foldl f t)
  | [], _, _, h => h
  | a :: acts, _, _, h => foldl hf acts (hf a h)

theorem timerAnswer (h : SameButOut s t) : SameButOut s.timerAnswer t.timerAnswer := by
  obtain ⟨h1, h2⟩ := h.draw
  unfold State.timerAnswer
  rw [h1]
  exact foldl (fun a h => timerAct h a) _ h2

theorem branchTest (h : SameButOut s t) : SameButOut s.branchTest t.branchTest := by
  have ht : SameButOut s.timerTest t.timerTest := by
    have hu := timerAnswer (emit_emit h .timerUpdate .timerUpdate)
    obtain ⟨o, rfl⟩ := h
    unfold State.timerTest
    split
    · exact hu
    · exact ⟨o, rfl⟩
  rw [State.branchTest, State.branchTest]
  have hr : t.timerTest.interruptRequest = s.timerTest.interruptRequest := by
    obtain ⟨o, ho⟩ := ht
    rw [ho]
    rfl
  unfold State.interruptTest
  rw [hr]
  split
  · exact emit_emit ht _ _
  · exact takeException (emit_emit ht _ _) _ _

theorem blockCommand (h : SameButOut s t) (i : Instr) :
    SameButOut (s.blockCommand i) (t.blockCommand i) := by
  cases i with
  | wrGpr n v => exact writeGpr h n v
  | raise code bdt => exact takeException h code bdt
  | branchTest => exact branchTest h
  | _ => obtain ⟨o, rfl⟩ := h; exact ⟨o, rfl⟩

theorem handlerAct (h : SameButOut s t) (a : Act) : SameButOut (s.handlerAct a) (t.handlerAct a) := by
  cases a with
  | command i => exact blockCommand h i
  | _ => obtain ⟨o, rfl⟩ := h; exact ⟨o, rfl⟩

theorem handlerActs (h : SameButOut s t) (acts : List Act) :
    SameButOut (s.handlerActs acts) (t.handlerActs acts) :=
  foldl (fun a h => handlerAct h a) acts h

end SameButOut

end Sys2Proof.Machine
end

