-- ==== Sys2Proof/Laws/Host.lean ====
section
/-!
SUPPORT. The host commands' parts: what freeing the block leaves alone, and what the Reset sequence
carries.
-/
namespace Sys2Proof.Machine

namespace State

variable (s : State)

/-! ### HOST_SHUTDOWN (R193): freeing the block touches its registers and the draw counter alone -/

@[simp] theorem freeBlock_host : s.freeBlock.host = s.host := by simp only [freeBlock]
@[simp] theorem freeBlock_cfg : s.freeBlock.cfg = s.cfg := by simp only [freeBlock]
@[simp] theorem freeBlock_irqIn : s.freeBlock.irqIn = s.irqIn := by simp only [freeBlock]
@[simp] theorem freeBlock_mem : s.freeBlock.mem = s.mem := by simp only [freeBlock]
@[simp] theorem freeBlock_memEpoch : s.freeBlock.memEpoch = s.memEpoch := by simp only [freeBlock]
@[simp] theorem freeBlock_tables : s.freeBlock.tables = s.tables := by simp only [freeBlock]
@[simp] theorem freeBlock_answers : s.freeBlock.answers = s.answers := by simp only [freeBlock]
@[simp] theorem freeBlock_draws : s.freeBlock.draws = s.draws + 1 := by simp only [freeBlock]
@[simp] theorem freeBlock_inputs : s.freeBlock.inputs = s.inputs := by simp only [freeBlock]
@[simp] theorem freeBlock_out : s.freeBlock.out = s.out := by simp only [freeBlock]
theorem freeBlock_zero : s.freeBlock.x[0] = 0#32 := by simp [freeBlock, freedGprs]

@[simp] theorem hostShutdown_host :
    s.hostShutdown.host = { s.host with backend := none, phase := .shutDown } := by simp [hostShutdown]
@[simp] theorem hostShutdown_cfg : s.hostShutdown.cfg = s.cfg := by simp [hostShutdown]
@[simp] theorem hostShutdown_tables : s.hostShutdown.tables = s.tables := by simp [hostShutdown]
@[simp] theorem hostShutdown_inputs : s.hostShutdown.inputs = s.inputs := by simp [hostShutdown]
@[simp] theorem hostShutdown_mem : s.hostShutdown.mem = [] := by simp [hostShutdown]
@[simp] theorem hostShutdown_status : s.hostShutdown.out.status = s.out.status := by simp [hostShutdown]
@[simp] theorem hostShutdown_events :
    s.hostShutdown.out.events =
      s.out.events ++ [.firmwareShutdown, .backendShutdown, .memShutdown] := by
  simp [hostShutdown]

/-! ### HOST_INIT (R190) -/

/-- The phase after HOST_INIT is decided by the status it returns. -/
theorem finishInit_host (v : Int) :
    (s.finishInit v).host = { s.host with phase := phaseAfterInit s.host.phase v } := rfl
theorem finishInit_hostStatus (v : Int) : (s.finishInit v).out.hostStatus = some v := rfl

/-! ### The Reset sequence (R262) up to `savedTimingFix <- cfg.timingFix` -/

/-- `Firmware.Init` carries everything after the five calls. -/
theorem resetSequence_carries :
    Carries (fun _ => false)
      (((((((s.emit .memReset).memoryReplaced).resetBlock.emit .backendApplyConfig).emit
        .backendReset).emit .hwReset)).timerAnswer.emit .firmwareInit) s.resetSequence := by
  unfold resetSequence firmwareInit
  exact (Carries.draw _).trans (Carries.foldl Carries.outsideAct _ _)

@[simp] theorem resetSequence_cfg : s.resetSequence.cfg = s.cfg := by
  unfold resetSequence firmwareInit
  simp [outsideActs_cfg]

/-! ### The registers of the block carried along -/

theorem SameBlock.refl : s.SameBlock s := ⟨rfl, rfl, rfl, rfl, rfl, rfl, rfl⟩

theorem SameBlock.trans {s t u : State} (h : s.SameBlock t) (k : t.SameBlock u) : s.SameBlock u := by
  obtain ⟨hx, hpc, hhi, hlo, hcycle, hcp0, hgte⟩ := h
  obtain ⟨kx, kpc, khi, klo, kcycle, kcp0, kgte⟩ := k
  exact ⟨kx.trans hx, kpc.trans hpc, khi.trans hhi, klo.trans hlo, kcycle.trans hcycle,
    kcp0.trans hcp0, kgte.trans hgte⟩

/-- A collaborator without a port to the registers leaves them (log 16). -/
theorem outsideActs_sameBlock (acts : List Act) : s.SameBlock (s.outsideActs acts) :=
  foldl_keeps (P := s.SameBlock)
    (fun t a h => h.trans (by cases a <;> exact SameBlock.refl _)) acts s (SameBlock.refl s)

/-- Up to `savedTimingFix <- cfg.timingFix` the registers are those that RESET_STATE leaves (R262). -/
theorem resetSequence_sameBlock : s.resetBlock.SameBlock s.resetSequence := by
  unfold resetSequence firmwareInit
  refine SameBlock.trans ?_ (outsideActs_sameBlock _ _)
  refine ⟨?_, ?_, ?_, ?_, ?_, ?_, ?_⟩ <;> simp <;> rfl

end State

end Sys2Proof.Machine
end

