-- ==== Sys2Proof/Laws/PerInstr.lean ====
section
/-!
SUPPORT. Facts stated once per instruction. Family `CommandWord`: the word of a command has `rsv = 0`
(`30_encoding.md` R84) and an opcode that the map of R82 assigns, not one that R85 reserves.
-/
namespace Sys2Proof.Laws.CommandWord

/-- The opcodes of R85. -/
def reservedOps : List (BitVec 5) :=
  [0x00#5, 0x14#5, 0x15#5, 0x16#5, 0x17#5, 0x1D#5, 0x1E#5, 0x1F#5]

/-- If `i` is a command, its word is well formed in the fields no command chooses. -/
def Statement (i : Instr) : Prop :=
  ∀ cw, encode i = .command cw → cmdRsv cw = 0#4 ∧ cmdOp cw ∉ reservedOps

/-- A word built of its fields, with an assigned opcode. -/
theorem of_cmdWord {i : Instr} {op : BitVec 5} {idx : RegNum} {bdt : Bdt} {data : Word}
    (he : encode i = .command (cmdWord op idx bdt data)) (ho : op ∉ reservedOps) : Statement i := by
  intro cw h
  obtain rfl : cmdWord op idx bdt data = cw := Encoded.command.inj (he.symm.trans h)
  exact ⟨cmdRsv_cmdWord op idx bdt data, by rwa [cmdOp_cmdWord]⟩

theorem rdGpr (n : RegNum) : Statement (.rdGpr n) := of_cmdWord rfl (by decide)
theorem wrGpr (n : RegNum) (v : Word) : Statement (.wrGpr n v) := of_cmdWord rfl (by decide)
theorem rdPc : Statement .rdPc := of_cmdWord rfl (by decide)
theorem wrPc (v : Word) : Statement (.wrPc v) := of_cmdWord rfl (by decide)
theorem rdHi : Statement .rdHi := of_cmdWord rfl (by decide)
theorem wrHi (v : Word) : Statement (.wrHi v) := of_cmdWord rfl (by decide)
theorem rdLo : Statement .rdLo := of_cmdWord rfl (by decide)
theorem wrLo (v : Word) : Statement (.wrLo v) := of_cmdWord rfl (by decide)
theorem rdCp0 (n : RegNum) : Statement (.rdCp0 n) := of_cmdWord rfl (by decide)
theorem wrCp0 (n : RegNum) (v : Word) : Statement (.wrCp0 n v) := of_cmdWord rfl (by decide)
theorem rdCycle : Statement .rdCycle := of_cmdWord rfl (by decide)
theorem addCycle (n : Word) : Statement (.addCycle n) := of_cmdWord rfl (by decide)
theorem rdNextEvent : Statement .rdNextEvent := of_cmdWord rfl (by decide)
theorem rdNextBase : Statement .rdNextBase := of_cmdWord rfl (by decide)
theorem wrNextEvent (v : Word) : Statement (.wrNextEvent v) := of_cmdWord rfl (by decide)
theorem wrNextBase (v : Word) : Statement (.wrNextBase v) := of_cmdWord rfl (by decide)
theorem raise (code : Word) (bdt : Bdt) : Statement (.raise code bdt) := of_cmdWord rfl (by decide)
theorem branchTest : Statement .branchTest := of_cmdWord rfl (by decide)
theorem resetState : Statement .resetState := of_cmdWord rfl (by decide)
theorem hostInit : Statement .hostInit := of_cmdWord rfl (by decide)
theorem hostReset : Statement .hostReset := of_cmdWord rfl (by decide)
theorem hostShutdown : Statement .hostShutdown := of_cmdWord rfl (by decide)
theorem jumpTest : Statement .jumpTest := of_cmdWord rfl (by decide)
theorem bootRun : Statement .bootRun := of_cmdWord rfl (by decide)
/-- The target-CPU word is no command word. -/
theorem gteSpecial (w : Word) : Statement (.gteSpecial w) := fun cw h => by simp [encode] at h

end Sys2Proof.Laws.CommandWord
end

