-- ==== Sys2Proof/Laws/Step.lean ====
section
/-!
SUPPORT. The cases of one step, and what each answer of `exec` says about the phase: said once, so that no
later proof unfolds `step` or `exec`.
-/
namespace Sys2Proof.Machine

/-- What a step that answers a next state did: it idled, it took a change of the surroundings, or it
performed a command that decodes. -/
theorem step_cases {s t : State} (h : step s = .next t) :
    (s.inputs = [] ∧ t = { s with inputs := [] }) ∨
    (∃ c rest, s.inputs = .change c :: rest ∧ t = State.applyChange { s with inputs := rest } c) ∨
    (∃ cw answers rest i, s.inputs = .command cw answers :: rest ∧ decodeCommand cw = .ok i ∧
      exec i { s with inputs := rest, answers := answers } = .next t) := by
  rcases hs : s.inputs with _ | ⟨⟨cw, answers⟩ | c, rest⟩
  · simp only [step, hs, performInput, List.head?_nil, List.tail_nil] at h
    exact .inl ⟨rfl, (Host.Outcome.next.inj h).symm⟩
  · simp only [step, hs, performInput, performWord, List.head?_cons, List.tail_cons] at h
    refine .inr (.inr ⟨cw, answers, rest, ?_⟩)
    split at h
    · exact ⟨_, rfl, by assumption, h⟩
    · cases h
  · simp only [step, hs, performInput, List.head?_cons, List.tail_cons] at h
    exact .inr (.inl ⟨c, rest, rfl, (Host.Outcome.next.inj h).symm⟩)

/-- A command that answers a next state found the block live, or is one of the four that are accepted in
some other phase (`70_reset_and_hazards.md` R264, `43_host_control.md` R193): before the first RESET_STATE,
or after HOST_SHUTDOWN. -/
theorem exec_next_phase {i : Instr} {s t : State} (h : exec i s = .next t) :
    s.host.phase = .live ∨ i = .hostInit ∨
      ((i = .resetState ∨ i = .hostShutdown) ∧ s.host.phase = .unreset) ∨
      (i = .hostReset ∧ s.host.phase ≠ .shutDown) := by
  cases i
  case hostInit => exact .inr (.inl rfl)
  case resetState => exact (State.whenNotShutDown_next h).1.imp id fun hp => .inr (.inl ⟨.inl rfl, hp⟩)
  case hostShutdown => exact (State.whenNotShutDown_next h).1.imp id fun hp => .inr (.inl ⟨.inr rfl, hp⟩)
  case hostReset => exact .inr (.inr (.inr ⟨rfl, (State.whenInitialised_next h).1⟩))
  all_goals exact .inl (State.whenLive_next h).1

end Sys2Proof.Machine
end

