-- ==== Sys2Proof/Tests/Slice0.lean ====
section
/-!
SUPPORT. Tests. Expected values come from the spec: the encodings of `30_encoding.md` R81 and R82, the
vectors and programs of `95_test_vectors.md`, the examples of the rules. And one witness for each set of
hypotheses that a statement of `Obligations.lean` makes.
-/
namespace Sys2Proof.Tests

open Sys2Proof.Machine

/-- What is seen of an outcome that is a next state. -/
def view {α : Type} (f : State → α) : Host.Outcome State Fault Refusal → Option α
  | .next t => some (f t)
  | .fault _ => none
  | .refused _ => none

/-- The reason of a refusal. -/
def refusal : Host.Outcome State Fault Refusal → Option Refusal
  | .next _ => none
  | .fault _ => none
  | .refused r => some r

/-- The state after reset with `pc` at `a` and the word `w` on the fetch port there. -/
def stateAt (a w : Word) : State := { State.reset with pc := a }.setWord a w

/-- The same, with SR and Cause given. -/
def excState (sr cause pc : Word) : State :=
  ((stateAt pc 0#32).writeCp0 Config.cp0Sr sr).writeCp0 Config.cp0Cause cause

/-- Cause, EPC, `pc` and SR. -/
def excView (t : State) : Word × Word × Word × Word := (t.cause, t.epc, t.pc, t.sr)

/-- An answer that performs these commands. -/
def doing (is : List Instr) : Answer := { status := 0, flag := false, acts := is.map .command }

/-! ### WellFormed: each check refuses an ill-formed term -/

/-- R142's example: `0x48000000` does not carry the pattern. -/
theorem test_illformed_gteSpecial : (Instr.gteSpecial 0x48000000#32).wellFormed = false := by decide

theorem test_illformed_word_is_refused : decodeInsn 0x48000000#32 = .error .notGtePattern := by decide

theorem test_wellformed_gteSpecial : (Instr.gteSpecial 0x4BFFFFFF#32).wellFormed = true := by decide

/-! ### Decoding: a word for every constructor, written from R81, R82 and R90 -/

theorem test_decode_register_words :
    decodeTableWord 48 0x0FC000000000 = some (.rdGpr 31#5) ∧
    decodeTableWord 48 0x12400000003D = some (.wrGpr 9#5 0x3D#32) ∧
    decodeTableWord 48 0x180000000000 = some .rdPc ∧
    decodeTableWord 48 0x200080010000 = some (.wrPc 0x80010000#32) ∧
    decodeTableWord 48 0x280000000000 = some .rdHi ∧
    decodeTableWord 48 0x300012345678 = some (.wrHi 0x12345678#32) ∧
    decodeTableWord 48 0x380000000000 = some .rdLo ∧
    decodeTableWord 48 0x40009ABCDEF0 = some (.wrLo 0x9ABCDEF0#32) := by decide

theorem test_decode_cp0_and_counter_words :
    decodeTableWord 48 0x4B8000000000 = some (.rdCp0 14#5) ∧
    decodeTableWord 48 0x530000000401 = some (.wrCp0 12#5 0x401#32) ∧
    decodeTableWord 48 0x580000000000 = some .rdCycle ∧
    decodeTableWord 48 0x60000000000C = some (.addCycle 12#32) ∧
    decodeTableWord 48 0x680000000000 = some .rdNextEvent ∧
    decodeTableWord 48 0x700000000000 = some .rdNextBase ∧
    decodeTableWord 48 0x780000000180 = some (.wrNextEvent 0x180#32) ∧
    decodeTableWord 48 0x8000FFFFFF00 = some (.wrNextBase 0xFFFFFF00#32) := by decide

theorem test_decode_control_words :
    decodeTableWord 48 0x883000000024 = some (.raise 0x24#32 3#2) ∧
    decodeTableWord 48 0x900000000000 = some .branchTest ∧
    decodeTableWord 48 0x980000000000 = some .resetState ∧
    decodeTableWord 48 0xC00000000000 = some .hostInit ∧
    decodeTableWord 48 0xC80000000000 = some .hostReset ∧
    decodeTableWord 48 0xD00000000000 = some .hostShutdown ∧
    decodeTableWord 48 0xD80000000000 = some .jumpTest ∧
    decodeTableWord 48 0xE00000000000 = some .bootRun ∧
    decodeTableWord 32 0x4A180001 = some (.gteSpecial 0x4A180001#32) := by decide

/-- V-REG-11 to V-REG-14, and R85's reserved opcodes at both ends of each range. -/
theorem test_decode_refuses :
    decodeCommand 0x180100000000#48 = .error .unusedFieldNonZero ∧
    decodeCommand 0xA00000000000#48 = .error .reservedOpcode ∧
    decodeCommand 0x180000000001#48 = .error .unusedFieldNonZero ∧
    decodeCommand 0x101000000000#48 = .error .unusedFieldNonZero ∧
    decodeCommand 0x000000000000#48 = .error .reservedOpcode ∧
    decodeCommand 0xB80000000000#48 = .error .reservedOpcode ∧
    decodeCommand 0xE80000000000#48 = .error .reservedOpcode ∧
    decodeCommand 0xF80000000000#48 = .error .reservedOpcode := by decide

theorem test_encode_raise : encode (.raise 0x10#32 2#2) = .command 0x882000000010#48 := by decide

/-! ### The command syntax (R89), lines of `95_test_vectors.md` -/

theorem test_syntax_commands :
    parseLine "WR_GPR r9, 0x3D" = .command (.wrGpr 9#5 0x3D#32) ∧
    parseLine "RAISE 0x10, 2 ; a delay-slot instruction" = .command (.raise 0x10#32 2#2) ∧
    parseLine "ADD_CYCLE 12" = .command (.addCycle 12#32) ∧
    parseLine "RD_GPR t1" = .command (.rdGpr 9#5) ∧
    parseLine "WR_CP0 CAUSE, 0x00000300" = .command (.wrCp0 13#5 0x300#32) ∧
    parseLine "  ; nothing" = .blank := by decide

theorem test_syntax_pseudo_commands :
    parseLine "WR_SR 0x00000401" = parseLine "WR_CP0 12, 0x401" ∧
    parseLine "RAISE_SYS" = parseLine "RAISE 0x20, 0" ∧
    parseLine "RAISE_INT" = parseLine "RAISE 0x400, 0" ∧
    parseLine "RD_EPC" = parseLine "RD_CP0 14" ∧
    parseLine "WR_GPR r32, 1" = .malformed ∧ parseLine "WR_PC 0x100000000" = .malformed := by decide

theorem test_step_refuses_reserved :
    refusal (step (State.reset.withFetchWord 48 0xA00000000000)) = some .reservedOpcode := by decide

theorem test_step_refuses_unused_field :
    refusal (step (State.reset.withFetchWord 48 0x180000000001)) = some .unusedFieldNonZero := by
  decide

/-! ### Register access (V-REG) -/

/-- `x[9] = 0x40` reads `0x40` (R100). -/
theorem test_rdGpr : view (·.out.rdata) (exec (.rdGpr 9#5) (State.reset.writeGpr 9#5 0x40#32)) =
    some (some 0x40#32) := by decide

/-- V-REG-1. -/
theorem test_wrGpr_zero : view (·.readGpr 0#5) (exec (.wrGpr 0#5 5#32) State.reset) =
    some 0#32 := by decide

/-- V-REG-2. -/
theorem test_wrGpr : view (fun t => (t.readGpr 31#5, t.readGpr 30#5))
    (exec (.wrGpr 31#5 0xFFFFFFFF#32) State.reset) = some (0xFFFFFFFF#32, 0#32) := by decide

/-- After reset `RD_PC` returns `0xBFC00000` (R102). -/
theorem test_rdPc : view (·.out.rdata) (exec .rdPc State.reset) = some (some 0xBFC00000#32) := by
  decide

/-- V-REG-3: no alignment check. -/
theorem test_wrPc : view (·.pc) (exec (.wrPc 0x80010003#32) State.reset) =
    some 0x80010003#32 := by decide

/-- V-REG-4. -/
theorem test_wrHi : view (fun t => (t.hi, t.lo)) (exec (.wrHi 0x12345678#32) State.reset) =
    some (0x12345678#32, 0#32) := by decide

theorem test_wrLo : view (fun t => (t.hi, t.lo)) (exec (.wrLo 0x9ABCDEF0#32) State.reset) =
    some (0#32, 0x9ABCDEF0#32) := by decide

theorem test_rdHi_rdLo :
    view (·.out.rdata) (exec .rdHi (State.reset.setHi 7#32)) = some (some 7#32) ∧
    view (·.out.rdata) (exec .rdLo (State.reset.setHi 7#32)) = some (some 0#32) := by decide

/-- V-REG-5. -/
theorem test_rdCp0 : view (·.out.rdata) (exec (.rdCp0 15#5) State.reset) = some (some 2#32) := by
  decide

/-- V-REG-6. -/
theorem test_wrCp0_cause : view (·.cause) (exec (.wrCp0 13#5 0xFFFFFFFF#32) State.reset) =
    some 0xFFFFFFFF#32 := by decide

/-- V-REG-7. -/
theorem test_wrCp0_pad : view (fun t => (t.readCp0 3#5, t.sr))
    (exec (.wrCp0 3#5 0xDEADBEEF#32) State.reset) = some (0xDEADBEEF#32, 0x10600000#32) := by decide

/-- V-REG-8: the counter wraps. -/
theorem test_addCycle_wraps :
    view (·.cycle) (exec (.addCycle 0x20#32) (State.reset.setCycle 0xFFFFFFF0#32)) =
      some 0x10#32 := by decide

/-- V-REG-9. -/
theorem test_addCycle_zero : view (·.cycle) (exec (.addCycle 0#32) (State.reset.setCycle 7#32)) =
    some 7#32 := by decide

theorem test_rdCycle : view (·.out.rdata) (exec .rdCycle (State.reset.setCycle 7#32)) =
    some (some 7#32) := by decide

/-- V-REG-10. -/
theorem test_scheduler_writes :
    view (fun t => (t.nextEvent, t.nextBase)) (exec (.wrNextEvent 1000#32) State.reset) =
      some (1000#32, 0#32) ∧
    view (fun t => (t.nextEvent, t.nextBase)) (exec (.wrNextBase 500#32) State.reset) =
      some (0#32, 500#32) := by decide

theorem test_scheduler_reads :
    view (·.out.rdata) (exec .rdNextEvent (State.reset.setNextEvent 1000#32)) =
      some (some 1000#32) ∧
    view (·.out.rdata) (exec .rdNextBase (State.reset.setNextBase 500#32)) =
      some (some 500#32) := by decide

/-! ### The exception dispatcher (V-EXC) -/

/-- V-EXC-2 and V-EXC-3: delay slots, and `pc = 0`. -/
theorem test_raise_delay_slot :
    view excView (exec (.raise 0x24#32 3#2) (excState 0x10600000#32 0xFF7C#32 0x80012344#32)) =
      some (0xC0000724#32, 0x80012340#32, 0xBFC00180#32, 0x10600000#32) ∧
    view excView (exec (.raise 0#32 2#2) (excState 0x1060003F#32 0#32 0#32)) =
      some (0x80000000#32, 0xFFFFFFFC#32, 0xBFC00180#32, 0x1060003C#32) := by decide

/-- V-EXC-5 and V-EXC-7: a code ORed literally, the RAM vector, the pending bits kept. -/
theorem test_raise_ram_vector :
    view excView
        (exec (.raise 0xFFFFFFFF#32 0#2) (excState 0x50200000#32 0xFFFFFFFF#32 0x80000000#32)) =
      some (0xFFFFFFFF#32, 0x80000000#32, 0x80000080#32, 0x50200000#32) ∧
    view excView (exec (.raise 0x10#32 2#2) (excState 0x40B#32 0x300#32 0x80030104#32)) =
      some (0x80000310#32, 0x80030100#32, 0x80000080#32, 0x42C#32) := by decide

/-- V-EXC-10: handler 1 is applied to the word. -/
theorem test_gteSpecial_applied :
    view (·.out.events) (exec (.gteSpecial 0x4A180001#32)
      { State.reset with tables := { State.reset.tables with gteEntries := [1#6] } }) =
      some [.gteHandler 1#6 0x4A180001#32] := by decide

/-- V-EXC-11 and V-EXC-13: an empty entry, and a word without the pattern. -/
theorem test_gteSpecial_skipped :
    view (fun t => (t.gte, t.out.events)) (exec (.gteSpecial 0x4A180001#32) State.reset) =
      some (⟨0⟩, []) ∧
    view (fun t => (t.gte, t.out.events)) (exec (.raise 0x20#32 0#2) (stateAt 0x80010000#32 0x48000000#32)) =
      some (⟨0⟩, [.fetch 0x80010000#32]) := by decide

/-- R70: a byte stored beside bytes nobody has listed is seen by the next fetch. -/
theorem test_stored_byte_is_fetched :
    wordByte ((State.reset.setByte (0xBFC00000#32 + 3#32) 0x4A#8).fetch 0xBFC00000#32) 3 = 0x4A#8 :=
  State.wordByte_fetch_setByte State.reset (a := 0xBFC00000#32) (by decide) (by decide) 0x4A#8

/-! ### The event scheduler (V-BT) -/

/-- A state for BRANCH_TEST. -/
def btState (cycle base event sr : Word) (pending : Bool) : State :=
  { excState sr 0#32 0x80020000#32 with
      cycle := cycle, nextBase := base, nextEvent := event
      irqIn := { pending := pending, rest := 0 }, answers := [doing []] }

/-- V-BT-1: equality triggers the update; the interrupt is taken. -/
theorem test_branchTest_update_and_interrupt :
    view (fun t => (excView t, t.out.events)) (exec .branchTest
      (btState 100#32 50#32 50#32 0x10600401#32 true)) =
      some ((0x400#32, 0x80020000#32, 0xBFC00180#32, 0x10600404#32),
        [.timerUpdate, .intEval, .fetch 0x80020000#32]) := by decide

/-- V-BT-4 (the wrap, without an update), V-BT-5 and V-BT-7. -/
theorem test_branchTest_comparator :
    timerDue 0x10#32 0xFFFFFFF0#32 0x21#32 = false ∧ timerDue 0x10#32 0xFFFFFFF0#32 0x20#32 = true ∧
    timerDue 5#32 10#32 0xFFFFFFF0#32 = true ∧
    view (·.out.events) (exec .branchTest (btState 0#32 0#32 1#32 0x10600400#32 true)) =
      some [.intEval] := by decide

/-! ### Jump Test (V-JT) -/

/-- Interception on, `pc`, `x[9]` and one handler. -/
def jtState (pc arg : Word) (entry : Gate × Byte) : State :=
  { State.reset.writeGpr 9#5 arg with
      pc := pc, cfg := { State.reset.cfg with fwIntercept := true, fwLog := true }
      tables := { State.reset.tables with fwEntries := [entry] }
      answers := [doing [.wrPc 0x80030010#32]] }

/-- V-JT-2, with the draw of program P5. -/
theorem test_jumpTest_calls :
    view (fun t => (t.pc, t.out.events))
      (exec .jumpTest (jtState 0xA00000B0#32 0x138#32 (.b, 0x38#8))) =
      some (0x80030010#32, [.log .b 0x38#8, .fwHandler .b 0x38#8]) := by decide

/-- R196: a quiet call number is handled and not logged. -/
theorem test_jumpTest_quiet :
    view (fun t => (t.pc, t.out.events))
      (exec .jumpTest (jtState 0x800000C0#32 0x101#32 (.c, 0x01#8))) =
      some (0x80030010#32, [.fwHandler .c 0x01#8]) := by decide

/-- V-JT-5: no gate at `0xB4`. -/
theorem test_jumpTest_no_gate :
    view (fun t => (t.pc, t.out.events))
      (exec .jumpTest (jtState 0x800000B4#32 0x138#32 (.b, 0x38#8))) =
      some (0x800000B4#32, []) := by decide

/-- R91's formula at the address of R194's example and V-JT-4: the low 21 bits of `0xBFC000B0` are `0xB0`
(log 23); the value the example prints, `0x1C00B0`, is no gate. -/
theorem test_gate_formula :
    0xBFC000B0#32 &&& 0x001FFFFF#32 = 0xB0#32 ∧ gateOf 0xBFC000B0#32 = some .b ∧
    gateOf 0x001C00B0#32 = none := by decide

/-! ### Boot Sequencer (V-BOOT) -/

/-- Nine blocks outside the kernel segment, and a tenth that enters it at `a`, the firmware setting the
timing-fix value to 9 on the way (V-BOOT-1, program P5). -/
def tenBlocks (a : Word) : List Answer :=
  List.replicate 9 (doing [.wrPc 0xBFC00100#32]) ++
    [{ status := 0, flag := false, acts := [.timingFix 9, .command (.wrPc a)] }]

/-- V-BOOT-1: no diagnostic. -/
theorem test_bootRun_reaches_kernel :
    view (fun t => (t.host.bootState, t.host.bootCount, t.pc,
        t.out.events == List.replicate 10 (.executeBlock .boot)))
      (exec .bootRun { State.reset with answers := tenBlocks 0x80030000#32 }) =
      some (.reachedKernel, 10, 0x80030000#32, true) := by decide

/-- V-BOOT-2; V-BOOT-5 and V-BOOT-6 for the segment. -/
theorem test_bootRun_diagnostic :
    view (fun t => (t.host.bootState, t.out.events))
      (exec .bootRun { State.reset with answers := [doing [.wrPc 0x80001000#32]] }) =
      some (.reachedKernel, [.executeBlock .boot, .nonStandardFirmware 1 0x80001000#32]) ∧
    inKernelSegment 0x80800000#32 = false ∧ inKernelSegment 0xA0030000#32 = false := by decide

/-! ### Reset, Init, Shutdown (V-RST) -/

/-- V-RST-1 and V-RST-2. -/
theorem test_resetState :
    view (fun t => (t.pc, t.sr, t.prid, t.readGpr 1#5, t.nextEvent))
      (exec .resetState ((State.reset.writeGpr 1#5 9#32).setNextEvent 5#32)) =
      some (0xBFC00000#32, 0x10600000#32, 2#32, 0#32, 5#32) ∧
    view (·.sr) (exec .resetState
      { State.reset with cfg := { State.reset.cfg with hle := true } }) = some 0x50200000#32 := by
  decide

/-- V-RST-3: an installer that writes SR leaves bits 30 and 22. -/
theorem test_hostReset_hle :
    view (fun t => (t.sr, t.pc, t.out.events)) (exec .hostReset
      { State.reset with
          cfg := { State.reset.cfg with hle := true }
          answers := [doing [], doing [], doing [.wrCp0 12#5 0x00400401#32, .wrPc 0x80010000#32]] }) =
      some (0x40000401#32, 0x80010000#32,
        [.memReset, .backendApplyConfig, .backendReset, .hwReset, .firmwareInit,
          .setupHleBootState]) := by decide

/-- V-RST-4 and V-RST-5: the timing-fix value is restored, and the bypass installs the boot state. -/
theorem test_hostReset_bypass :
    view (fun t => (t.cfg.timingFix, t.host.savedTimingFix, t.pc,
        t.out.events.contains .tryIntroBypass, t.out.events.count .setupHleBootState))
      (exec .hostReset
        { State.reset with
            cfg := { State.reset.cfg with introPolicy := true, timingFix := 7 }
            answers := [doing [], doing []] ++ tenBlocks 0x80030000#32 ++
              [{ status := 0, flag := true, acts := [] }, doing [.wrPc 0x80010000#32]] }) =
      some (7, 7, 0x80010000#32, true, 1) := by decide

/-- V-RST-7. -/
theorem test_hostInit_memory_failure :
    view (fun t => (t.out.hostStatus, t.out.events, t.host.backend)) (exec .hostInit
      { State.reset with answers := [{ status := 3, flag := false, acts := [] }] }) =
      some (some 3, [.memInit], some .interpreter) := by decide

/-- R192's fallback, and `backend.Init()` called when the flag is set (R190). -/
theorem test_hostInit_backend :
    view (fun t => (t.out.hostStatus, t.out.events, t.host.backend)) (exec .hostInit
      { State.reset with
          cfg := { State.reset.cfg with backend := .recompilerB }
          host := { State.reset.host with backendInitOnce := true }
          answers := [doing [], { status := 5, flag := false, acts := [] }] }) =
      some (some 5, [.memInit, .backendInit], some .interpreter) := by decide

/-- R193: the order of the calls. -/
theorem test_hostShutdown :
    view (fun t => (t.out.events, t.host.phase)) (exec .hostShutdown State.reset) =
      some ([.firmwareShutdown, .backendShutdown, .memShutdown], .shutDown) := by decide

/-- R193, D35: RD_PC is refused then, and so is a second HOST_SHUTDOWN. -/
theorem test_afterShutdown_refused :
    refusal (exec .rdPc (State.reset.setHost { State.reset.host with phase := .shutDown })) =
      some .afterShutdown ∧
    refusal (exec .hostShutdown (State.reset.setHost { State.reset.host with phase := .shutDown })) =
      some .afterShutdown := by decide

/-! ### Every row of the table runs as the first instruction after reset -/

theorem test_register_rows_run :
    ∀ w ∈ [0x080000000000, 0x100000000000, 0x180000000000, 0x200000000000, 0x280000000000,
        0x300000000000, 0x380000000000, 0x400000000000, 0x480000000000, 0x500000000000,
        0x580000000000, 0x600000000000, 0x680000000000, 0x700000000000, 0x780000000000,
        0x800000000000],
      view (fun _ => true) (step (State.reset.withFetchWord 48 w)) = some true := by decide

theorem test_control_rows_run :
    (∀ w ∈ [0x880000000000, 0x900000000000, 0x980000000000, 0xC00000000000, 0xC80000000000,
        0xD00000000000, 0xD80000000000, 0xE00000000000],
      view (fun _ => true) (step (State.reset.withFetchWord 48 w)) = some true) ∧
    view (fun _ => true) (step (State.reset.withFetchWord 32 0x4A000000)) = some true := by decide

theorem test_idle_run_is_safe : SafeRun 1 State.reset := ⟨_, rfl, trivial⟩

/-! ### Witnesses: a state and operands for the hypotheses of each statement -/

/-- DecodeOfEncodeIsTheInstruction, EncodeOfDecodeIsTheWord, WithFetchWordReachesTheInstruction. -/
theorem witness_wellformed :
    (Instr.wrGpr 31#5 0xFFFFFFFF#32).wellFormed = true ∧
    encode (.wrGpr 31#5 0xFFFFFFFF#32) = .command 0x17C0FFFFFFFF#48 ∧
    (Instr.gteSpecial 0x4A00003F#32).wellFormed = true ∧
    encode (.gteSpecial 0x4A00003F#32) = .insn 0x4A00003F#32 ∧
    decode (.command 0x17C0FFFFFFFF#48) = .ok (.wrGpr 31#5 0xFFFFFFFF#32) := by decide

/-- CommandWordsAreTheRowsOfTheTable: a word that its row accepts and no other, and a word none does,
presented. -/
theorem witness_rows :
    decodeCommand 0x88FC00000000#48 = .error .unusedFieldNonZero ∧
    decodeCommand 0x883FFFFFFFFF#48 = .error .unusedFieldNonZero ∧
    decodeCommand 0x8830FFFFFFFF#48 = .ok (.raise 0xFFFFFFFF#32 3#2) ∧
    (commandRows.filter (·.accepts 0x8830FFFFFFFF#48)).map (·.mnemonic) = ["RAISE"] ∧
    (∀ r ∈ commandRows, r.accepts 0xA00000000000#48 = false) ∧
    (State.reset.present (.command 0xA00000000000#48 [])).inputs =
      .command 0xA00000000000#48 [] :: [] := by decide

/-- ReservedOpcodesAreRefused: the assigned neighbours of the reserved ranges are not reserved. -/
theorem witness_reserved :
    cmdOp 0xB80000000000#48 ∈ [0x00#5, 0x14#5, 0x15#5, 0x16#5, 0x17#5, 0x1D#5, 0x1E#5, 0x1F#5] ∧
    decodeCommand 0x080000000000#48 = .ok (.rdGpr 0#5) ∧
    decodeCommand 0x980000000000#48 = .ok .resetState ∧
    decodeCommand 0xC00000000000#48 = .ok .hostInit ∧
    decodeCommand 0xE00000000000#48 = .ok .bootRun ∧
    (State.reset.present (.command 0xB80000000000#48 [])).inputs =
      .command 0xB80000000000#48 [] :: [] := by decide

/-- GtePatternIsTheTopSevenBits: the words at both ends of the pattern. -/
theorem witness_gtePattern :
    decodeInsn 0x4A000000#32 = .ok (.gteSpecial 0x4A000000#32) ∧
    decodeInsn 0x4BFFFFFF#32 = .ok (.gteSpecial 0x4BFFFFFF#32) ∧
    decodeInsn 0x49FFFFFF#32 = .error .notGtePattern ∧
    decodeInsn 0x4C000000#32 = .error .notGtePattern := by decide

/-- CommandSyntaxReachesTheCommands: operands of each kind, at both ends of their range. -/
theorem witness_syntax :
    gprOperand "r31".toList = some 31#5 ∧ gprOperand "zero".toList = some 0#5 ∧
    gprNames[31]? = some "ra" ∧ cp0Operand "31".toList = some 31#5 ∧
    cp0Operand "SR".toList = some 12#5 ∧ fitted 32 "0xffffffff".toList = some 0xFFFFFFFF#32 ∧
    fitted 32 "4294967296".toList = none ∧ fitted 2 "3".toList = some 3#2 ∧
    fitted 2 "4".toList = none := by decide

/-- StepPerformsTheDecodedCommand. -/
theorem witness_step :
    (State.reset.present (.command 0x180000000000#48 [doing []])).inputs =
      .command 0x180000000000#48 [doing []] :: [] ∧
    decodeCommand 0x180000000000#48 = .ok .rdPc := by decide

/-- StepBetweenCommandsTouchesNoRegister, MemoryChangeIsReadBack. -/
theorem witness_change :
    State.reset.inputs = [] ∧
    (State.reset.present (.change (.setByte 0xFFFFFFFF#32 0xAA#8))).inputs =
      .change (.setByte 0xFFFFFFFF#32 0xAA#8) :: [] ∧
    (State.reset.present (.change (.backendInitOnce true))).inputs =
      .change (.backendInitOnce true) :: [] := by decide

/-- Every statement whose one hypothesis is that the block is live; and, for SecondEntryMovesTheContext
and ThirdEntryLosesTheContext, states that differ in SR bits 5:0 alone. -/
theorem witness_live :
    State.reset.Live ∧ (excState 0x1060003F#32 0#32 0#32).Live ∧
    (excState 0x1060003F#32 0#32 0#32).sr.extractLsb' 6 26 = State.reset.sr.extractLsb' 6 26 ∧
    (excState 0x1060003F#32 0#32 0#32).sr ≠ State.reset.sr :=
  ⟨rfl, rfl, by decide, by decide⟩

/-- RaisePerformsTheWordAtPc. -/
theorem witness_word_at_pc :
    (stateAt 0x80030104#32 0x4A180001#32).Live ∧
    decodeInsn ((stateAt 0x80030104#32 0x4A180001#32).fetch 0x80030104#32) =
      .ok (.gteSpecial 0x4A180001#32) := ⟨rfl, by decide⟩

/-- SchedulerPortsStoreTheValue: a baseline just above `cycle`, and one that the largest target still
outruns; a live state with the target 0 written. -/
theorem witness_scheduler :
    (5#32).toNat < (6#32).toNat ∧ timerDue 5#32 6#32 0xFFFFFFFF#32 = true ∧
    (5#32).toNat < (7#32).toNat ∧ timerDue 5#32 7#32 0xFFFFFFFF#32 = false ∧
    (State.reset.setNextEvent 0#32).host.phase = .live ∧
    (State.reset.setNextEvent 0#32).nextEvent = 0#32 := by decide

/-- GteSpecialCaseAppliesTheHandler: the last index of the table with its entry, and each way to skip. -/
theorem witness_gteSpecial :
    (0x4BFFFFFF#32 : Word).extractLsb' 25 7 = Config.gteTop7 ∧
    (0x4BFFFFFF#32 : Word).extractLsb' 0 6 ∈ [63#6] ∧ State.reset.cfg.hle = false ∧
    (0x48000000#32 : Word).extractLsb' 25 7 ≠ Config.gteTop7 ∧
    (0x4BFFFFFF#32 : Word).extractLsb' 0 6 ∉ State.reset.tables.gteEntries := by decide

/-- BranchTestIsTheFixedSequence, DefaultArbiterTakesTheInterrupt: an evaluation that requests an
interrupt, and one for each condition missing. -/
theorem witness_arbiter :
    (btState 0#32 0#32 1#32 0x10600401#32 true).Live ∧
    timerDue 0#32 0#32 1#32 = false ∧
    (btState 0#32 0#32 1#32 0x10600401#32 true).tables.arbiter = .default ∧
    (btState 0#32 0#32 1#32 0x10600401#32 true).interruptRequest = some (0x400#32, 0#2) ∧
    (btState 0#32 0#32 1#32 0x10600401#32 false).interruptRequest = none ∧
    (btState 0#32 0#32 1#32 0x10600400#32 true).interruptRequest = none ∧
    (btState 0#32 0#32 1#32 0x10600001#32 true).interruptRequest = none :=
  ⟨rfl, by decide, by decide, by decide, by decide, by decide, by decide⟩

/-- TimerUpdateAdmitsEveryDraw; BranchTestChangesOnlyTheScheduler without a RAISE. -/
theorem witness_timer_due :
    timerDue 0xFFFFFFFF#32 0#32 0xFFFFFFFF#32 = true ∧
    view (·.out.events) (exec .branchTest (btState 0xFFFFFFFF#32 0#32 0xFFFFFFFF#32 0#32 true)) =
      some [.timerUpdate, .intEval] := by decide

/-- The states before the first RESET_STATE, and after HOST_SHUTDOWN: ResetStateResetsTheBlock,
ResetValuesWithAndWithoutHle, ResetIsTheStateResetStateLeaves, CommandsBeforeTheFirstResetAreRefused,
HostResetKeepsTheConfiguration, HostResetUnderHleInstallsTheBootState. -/
theorem witness_phases :
    ((State.reset.setHost { State.reset.host with phase := .unreset }).host.phase = .live ∨
      (State.reset.setHost { State.reset.host with phase := .unreset }).host.phase = .unreset) ∧
    State.reset.cfg.hle = false ∧ State.reset.host.phase ≠ .shutDown ∧
    ({ State.reset with cfg := { State.reset.cfg with hle := true } } : State).cfg.hle = true ∧
    ({ State.reset with cfg := { State.reset.cfg with hle := true } } : State).host.phase ≠
      .shutDown := by decide

/-- HostResetWithoutHleBootsTheFirmware: the state with the bypass policy in which the boot ends at `a`
and the bypass answers `flag`. -/
def bypassState (a : Word) (flag : Bool) : State :=
  { State.reset with
      cfg := { State.reset.cfg with introPolicy := true, timingFix := 7 }
      answers := [doing [], doing []] ++ tenBlocks a ++ [{ status := 0, flag := flag, acts := [] }] }

/-- Where the boot of a HOST_RESET ends, and the answer the bypass would give. -/
def bootEnd (s : State) : Word × Bool :=
  (s.accept.resetSequence.saveTimingFix.bootRun.pc,
    s.accept.resetSequence.saveTimingFix.bootRun.draw.1.flag)

/-- HostResetWithoutHleBootsTheFirmware: the premises of each clause (V-RST-5, V-RST-6). -/
theorem witness_hostReset_boot :
    (bypassState 0x80030000#32 true).cfg.hle = false ∧
    (bypassState 0x80030000#32 true).cfg.introPolicy = true ∧
    bootEnd (bypassState 0x80030000#32 true) = (Config.kernelEntry, true) ∧
    bootEnd (bypassState 0x80030000#32 false) = (Config.kernelEntry, false) ∧
    (bootEnd (bypassState 0x80031000#32 true)).1 ≠ Config.kernelEntry := by decide

/-- HostInitSelectsTheBackend: a host that offers the recompiler configured. -/
def offeringState : State :=
  { State.reset with
      cfg := { State.reset.cfg with backend := .recompilerB }
      tables := { State.reset.tables with offers := [.recompilerB] }
      answers := [doing []] }

/-- HostInitReturnsTheStatus, HostInitSelectsTheBackend: each clause's premises. -/
theorem witness_hostInit :
    ({ State.reset with answers := [{ status := -1, flag := false, acts := [] }] } : State).draw.1.status
      ≠ 0 ∧
    ({ State.reset with answers := [doing []] } : State).draw.1.status = 0 ∧
    State.reset.cfg.backend = .interpreter ∧
    (BackendKind.recompilerA ≠ .interpreter ∧ .recompilerA ∉ State.reset.tables.offers) ∧
    offeringState.cfg.backend = .recompilerB ∧
    offeringState.cfg.backend ∈ offeringState.tables.offers := by decide

/-- R192: the recompiler configured is selected where the host offers it. -/
theorem test_hostInit_offered :
    view (·.host.backend) (exec .hostInit offeringState) = some (some .recompilerB) := by decide

/-- HostShutdownFreesTheBlock: each phase of its two clauses. -/
theorem witness_shutdown_phases :
    (State.reset.setHost { State.reset.host with phase := .shutDown }).host.phase = .shutDown ∧
    (State.reset.setHost { State.reset.host with phase := .reinitialised }).host.phase =
      .reinitialised ∧
    State.reset.host.phase = .live ∧
    (State.reset.setHost { State.reset.host with phase := .unreset }).host.phase = .unreset := by
  decide

/-- HostShutdownFreesTheBlock: the HOST_INIT that follows returns 0, or another status. -/
theorem witness_reinitialised :
    view (fun t => (t.out.hostStatus, t.host.phase)) (exec .hostInit
      { State.reset with
          host := { State.reset.host with phase := .shutDown, backend := none }
          answers := [doing []] }) = some (some 0, .reinitialised) ∧
    view (fun t => (t.out.hostStatus, t.host.phase)) (exec .hostInit
      { State.reset with
          host := { State.reset.host with phase := .shutDown, backend := none }
          answers := [{ status := 3, flag := false, acts := [] }] }) =
      some (some 3, .shutDown) := by decide

/-- JumpTestIsInactiveWithoutAHandler, JumpTestCallsTheHandlerOnce: each clause's premises, the call
numbers at both ends of a table. -/
theorem witness_jumpTest :
    (jtState 0x800000A0#32 0xFFFFFFFF#32 (.a, 0xFF#8)).Live ∧
    (jtState 0x800000A0#32 0xFFFFFFFF#32 (.a, 0xFF#8)).cfg.hle = false ∧
    (jtState 0x800000A0#32 0xFFFFFFFF#32 (.a, 0xFF#8)).cfg.fwIntercept = true ∧
    gateOf 0x800000A0#32 = some .a ∧
    (jtState 0x800000A0#32 0xFFFFFFFF#32 (.a, 0xFF#8)).callNumber = 0xFF#8 ∧
    (jtState 0x000000C0#32 0xFFFFFF00#32 (.c, 0x00#8)).interceptedCall = some (.c, 0x00#8) ∧
    (jtState 0x000000C0#32 0xFFFFFF00#32 (.c, 0x01#8)).interceptedCall = none ∧
    gateOf 0x800000B4#32 = none ∧
    (jtState 0x800000A0#32 0#32 (.a, 0#8)).draw.1.acts = [.command (.wrPc 0x80030010#32)] ∧
    (jtState 0x800000A0#32 0xFFFFFFFF#32 (.a, 0xFF#8)).cfg.fwLog = true ∧
    isQuiet State.reset.tables.quiet .a 0xFF#8 = false ∧
    isQuiet State.reset.tables.quiet .a 0x00#8 = true :=
  ⟨rfl, by decide, by decide, by decide, by decide, by decide, by decide, by decide, by decide,
    by decide, by decide, by decide⟩

/-- FetchAssemblesTheListedBytes: the last word of the address space, a word with one byte listed and the
others not, and a misaligned address. -/
theorem witness_fetch :
    (0xFFFFFFFC#32 : Word).extractLsb' 0 2 = 0#2 ∧
    (State.reset.setWord 0xFFFFFFFC#32 0x4A180001#32).readByte 0xFFFFFFFC#32 = some 0x01#8 ∧
    (State.reset.setWord 0xFFFFFFFC#32 0x4A180001#32).readByte 0xFFFFFFFD#32 = some 0x00#8 ∧
    (State.reset.setWord 0xFFFFFFFC#32 0x4A180001#32).readByte 0xFFFFFFFE#32 = some 0x18#8 ∧
    (State.reset.setWord 0xFFFFFFFC#32 0x4A180001#32).readByte 0xFFFFFFFF#32 = some 0x4A#8 ∧
    (State.reset.setByte 0xBFC00003#32 0x4A#8).readByte (0xBFC00000#32 + BitVec.ofNat 32 3) =
      some 0x4A#8 ∧
    (State.reset.setByte 0xBFC00003#32 0x4A#8).readByte (0xBFC00000#32 + BitVec.ofNat 32 0) = none ∧
    (0x80010003#32 : Word).extractLsb' 0 2 ≠ 0#2 := by decide

/-- StepKeepsTheInvariant: a state that meets the invariant, and its step. -/
theorem witness_inv :
    (State.reset.withFetchWord 48 0x180000000000).Inv ∧
    ∃ t, step (State.reset.withFetchWord 48 0x180000000000) = .next t := by
  refine ⟨⟨by decide, by decide, by rfl, ⟨?_, ?_⟩, by decide⟩, _, rfl⟩
  · intro k h; cases h
  · intro h; cases h

/-- OnlyAddCycleAndResetMoveTheCounter, OnlyResetAndWrCp0WriteBev, PcChangesInThreePlaces: a block
command that completes and is none of those excepted; WR_CP0 of a cell that is not SR is one. -/
theorem witness_block_command :
    isBlockCommand (.wrCp0 Config.cp0Cause 0#32) = true ∧
    (∃ t, exec (.wrCp0 Config.cp0Cause 0#32) State.reset = .next t) ∧
    (∀ v, Instr.wrCp0 Config.cp0Cause 0#32 ≠ .wrCp0 Config.cp0Sr v) ∧
    (∀ n, Instr.wrCp0 Config.cp0Cause 0#32 ≠ .addCycle n) ∧
    Instr.wrCp0 Config.cp0Cause 0#32 ≠ .resetState :=
  ⟨rfl, ⟨_, rfl⟩, fun v => (by simp [Config.cp0Cause, Config.cp0Sr]), fun n => (by simp), by decide⟩

/-! #### BootStopsAtTheFirstKernelBlock: `k = BOOT_CAP`, and a boot that never reaches the kernel -/

/-- A block that issues no command. -/
def idleBlock : Answer := { status := 0, flag := false, acts := [] }

theorem bootBlock_idle {s : State} {rest : List Answer} (h : s.answers = idleBlock :: rest) :
    s.bootBlock.pc = s.pc ∧ s.bootBlock.answers = rest := by
  simp [State.bootBlock, State.executeBlock, State.draw, h, State.emit, State.backendActs, idleBlock,
    State.setHost]

theorem bootBlocks_idle (j : Nat) : ∀ (s : State) (rest : List Answer),
    s.answers = List.replicate j idleBlock ++ rest →
      (State.bootBlock^[j] s).pc = s.pc ∧ (State.bootBlock^[j] s).answers = rest := by
  induction j with
  | zero => exact fun s rest h => ⟨rfl, h⟩
  | succ n ih =>
    intro s rest h
    obtain ⟨hpc, ha⟩ := bootBlock_idle (rest := List.replicate n idleBlock ++ rest)
      (by simpa [List.replicate_succ] using h)
    obtain ⟨hp, hr⟩ := ih s.bootBlock rest ha
    exact ⟨hp.trans hpc, hr⟩

/-- The state after reset in which the next `n` blocks idle. -/
def idleBoot (n : Nat) (rest : List Answer) : State :=
  { State.reset with answers := List.replicate n idleBlock ++ rest }.accept.bootStart

theorem idleBoot_outside (n : Nat) (rest : List Answer) (j : Nat) (hj : j ≤ n) :
    inKernelSegment (State.bootBlock^[j] (idleBoot n rest)).pc = false := by
  obtain ⟨m, rfl⟩ := Nat.exists_eq_add_of_le hj
  have ha : (idleBoot (j + m) rest).answers =
      List.replicate j idleBlock ++ (List.replicate m idleBlock ++ rest) := by
    rw [← List.append_assoc, List.replicate_append_replicate]
    rfl
  have hpc : (idleBoot (j + m) rest).pc = 0xBFC00000#32 := rfl
  rw [(bootBlocks_idle j _ _ ha).1, hpc]
  decide

/-- The premises of the clause for a boot that ends exhausted. -/
theorem witness_boot_exhausted : ∀ j, 1 ≤ j → j ≤ Config.bootCap →
    inKernelSegment (State.bootBlock^[j] (idleBoot Config.bootCap [])).pc = false :=
  fun j _ hj => idleBoot_outside Config.bootCap [] j hj

/-- A boot whose first `n` blocks idle and whose next one enters the kernel segment. -/
theorem kernelBoot (cap n : Nat) (hcap : cap = n + 1) :
    (∀ j, 1 ≤ j → j < cap → inKernelSegment (State.bootBlock^[j]
      (idleBoot n [doing [.wrPc 0x80030000#32]])).pc = false) ∧
    inKernelSegment (State.bootBlock^[cap] (idleBoot n [doing [.wrPc 0x80030000#32]])).pc = true := by
  subst hcap
  refine ⟨fun j _ hj => idleBoot_outside n _ j (by omega), ?_⟩
  rw [Function.iterate_succ_apply']
  have h := (bootBlocks_idle n (idleBoot n [doing [.wrPc 0x80030000#32]])
    [doing [.wrPc 0x80030000#32]] rfl).2
  generalize State.bootBlock^[n] (idleBoot n [doing [.wrPc 0x80030000#32]]) = u at h ⊢
  have hpc : u.bootBlock.pc = 0x80030000#32 := by
    simp [State.bootBlock, State.executeBlock, State.draw, h, State.emit, State.backendActs, doing,
      State.setHost, State.backendAct, State.backendCommand, State.blockCommand, State.setPc]
  rw [hpc]
  decide

/-- The premises of the clause for a boot that reaches the kernel, at `k = BOOT_CAP` (V-BOOT-4). -/
theorem witness_boot_last_block :
    (∀ j, 1 ≤ j → j < Config.bootCap →
      inKernelSegment (State.bootBlock^[j]
        (idleBoot (Config.bootCap - 1) [doing [.wrPc 0x80030000#32]])).pc = false) ∧
    inKernelSegment (State.bootBlock^[Config.bootCap]
      (idleBoot (Config.bootCap - 1) [doing [.wrPc 0x80030000#32]])).pc = true :=
  kernelBoot Config.bootCap (Config.bootCap - 1) (by decide)

end Sys2Proof.Tests
end

/-!
PROOFS of the family `10_state.md`. What a command can do is said once (`exec_block_next` for the block
commands, `exec_keepsInv` for all of them); each obligation is read off from it.
-/
namespace Sys2Proof.Machine

/-! ### What a block command can do -/

/-- A block command that completes has the effect that the same command has when a collaborator issues it,
or it is a read, which changes `rdata` alone. -/
theorem exec_block_next {i : Instr} {s t : State} (hb : isBlockCommand i = true)
    (h : exec i s = .next t) :
    t = s.accept.blockCommand i ∨ ∃ v, t = s.accept.setRdata v := by
  cases i with
  | rdGpr _ | rdPc | rdHi | rdLo | rdCp0 _ | rdCycle | rdNextEvent | rdNextBase =>
    exact .inr ⟨_, (State.whenLive_next h).2⟩
  | wrGpr _ _ | wrPc _ | wrHi _ | wrLo _ | wrCp0 _ _ | addCycle _ | wrNextEvent _ | wrNextBase _
  | raise _ _ | branchTest => exact .inl (State.whenLive_next h).2
  | resetState => exact .inl (State.whenNotShutDown_next h).2
  | hostInit | hostReset | hostShutdown | jumpTest | bootRun | gteSpecial _ => cases hb

/-- R26, R35(d): the block commands that leave the cycle counter. -/
theorem State.blockCommand_cycle (s : State) {i : Instr} (hadd : ∀ n, i ≠ .addCycle n)
    (hreset : i ≠ .resetState) : (s.blockCommand i).cycle = s.cycle := by
  cases i with
  | addCycle n => exact absurd rfl (hadd n)
  | resetState => exact absurd rfl hreset
  | wrGpr n v => exact s.writeGpr_cycle n v
  | raise code bdt => exact s.takeException_cycle code bdt
  | branchTest => exact s.branchTest_cycle
  | _ => rfl

/-- The status-register push moves bits 5:0 alone, so it leaves BEV (R147). -/
theorem srPush_bev (sr : Word) : srBEV (srPush sr) = srBEV sr :=
  srPush_getLsbD sr (by decide : Config.srBevBit < 32)

/-- BRANCH_TEST writes SR, if at all, by the one exception it requests. -/
theorem State.branchTest_bev (s : State) : srBEV s.branchTest.sr = srBEV s.sr := by
  unfold State.branchTest State.interruptTest
  split
  · simp
  · simp [srPush_bev]

/-- R35(c): the block commands that leave SR bit 22. -/
theorem State.blockCommand_bev (s : State) {i : Instr} (hsr : ∀ v, i ≠ .wrCp0 Config.cp0Sr v)
    (hreset : i ≠ .resetState) : srBEV (s.blockCommand i).sr = srBEV s.sr := by
  cases i with
  | wrCp0 n v =>
    have hn : n ≠ Config.cp0Sr := fun hn => hsr v (hn ▸ rfl)
    have hkeep : (s.writeCp0 n v).sr = s.sr := by
      simp only [State.sr, State.readCp0_writeCp0, if_neg hn]
    exact congrArg srBEV hkeep
  | resetState => exact absurd rfl hreset
  | wrGpr n v => exact congrArg srBEV (s.writeGpr_readCp0 n v _)
  | raise code bdt => exact (congrArg srBEV (s.takeException_sr code bdt)).trans (srPush_bev s.sr)
  | branchTest => exact s.branchTest_bev
  | _ => rfl

/-- There are two exception vectors (R146). -/
theorem exceptionVector_cases (sr : Word) :
    exceptionVector sr = Config.excVecRom ∨ exceptionVector sr = Config.excVecRam := by
  unfold exceptionVector
  split
  · exact .inl rfl
  · exact .inr rfl

/-- BRANCH_TEST moves `pc`, if at all, to the vector of the one exception it requests. -/
theorem State.branchTest_pc (s : State) :
    s.branchTest.pc = s.pc ∨ s.branchTest.pc = exceptionVector s.sr := by
  unfold State.branchTest State.interruptTest
  split
  · simp
  · simp

/-- R24: where a block command can leave `pc`. -/
theorem State.blockCommand_pc (s : State) (i : Instr) :
    (s.blockCommand i).pc = s.pc ∨
    (i = .resetState ∧ (s.blockCommand i).pc = Config.bootVector) ∨
    i = .wrPc (s.blockCommand i).pc ∨
    ((i = .branchTest ∨ ∃ c d, i = .raise c d) ∧
      (s.blockCommand i).pc = exceptionVector s.sr) := by
  cases i with
  | resetState => exact .inr (.inl ⟨rfl, rfl⟩)
  | wrPc v => exact .inr (.inr (.inl rfl))
  | raise code bdt => exact .inr (.inr (.inr ⟨.inr ⟨code, bdt, rfl⟩, rfl⟩))
  | branchTest => exact s.branchTest_pc.imp id fun hpc => .inr (.inr ⟨.inl rfl, hpc⟩)
  | wrGpr n v => exact .inl (s.writeGpr_pc n v)
  | _ => exact .inl rfl

/-! ### The general registers are not seen (R22) -/

namespace State

/-- `s` with other general registers. -/
def withGprs (s : State) (x : Vector Word 32) : State := { s with x := x }

variable (s : State) (x : Vector Word 32)

theorem gteSpecialCase_withGprs (w : Word) :
    (s.withGprs x).gteSpecialCase w = (s.gteSpecialCase w).withGprs x := by
  unfold gteSpecialCase
  rw [apply_ite (State.withGprs · x)]
  rfl

theorem takeException_withGprs (code : Word) (bdt : Bdt) :
    (s.withGprs x).takeException code bdt = (s.takeException code bdt).withGprs x := by
  have hgte : ((s.withGprs x).emit (.fetch (s.withGprs x).pc)).gteSpecialCase
      ((s.withGprs x).fetch (s.withGprs x).pc) =
      ((s.emit (.fetch s.pc)).gteSpecialCase (s.fetch s.pc)).withGprs x :=
    gteSpecialCase_withGprs (s.emit (.fetch s.pc)) x (s.fetch s.pc)
  unfold takeException
  rw [hgte]
  rfl

theorem draw_withGprs : (s.withGprs x).draw = (s.draw.1, s.draw.2.withGprs x) := by
  unfold draw
  simp only [withGprs]
  split <;> rfl

theorem timerAct_withGprs (a : Act) : (s.withGprs x).timerAct a = (s.timerAct a).withGprs x := by
  rcases a with ⟨_ | _⟩ | _ | _ | _ <;> rfl

theorem timerActs_withGprs (acts : List Act) :
    (s.withGprs x).timerActs acts = (s.timerActs acts).withGprs x := by
  unfold timerActs
  induction acts generalizing s with
  | nil => rfl
  | cons a acts ih => simp only [List.foldl_cons, timerAct_withGprs, ih]

theorem timerUpdate_withGprs : (s.withGprs x).timerUpdate = s.timerUpdate.withGprs x := by
  have hdraw := draw_withGprs (s.emit .timerUpdate) x
  unfold timerUpdate timerAnswer
  rw [show (s.withGprs x).emit .timerUpdate = (s.emit .timerUpdate).withGprs x from rfl, hdraw]
  exact timerActs_withGprs _ x _

theorem timerTest_withGprs : (s.withGprs x).timerTest = s.timerTest.withGprs x := by
  cases hdue : timerDue s.cycle s.nextBase s.nextEvent with
  | true => rw [timerTest_due s hdue, timerTest_due (s.withGprs x) hdue, timerUpdate_withGprs]
  | false => rw [timerTest_not_due s hdue, timerTest_not_due (s.withGprs x) hdue]

theorem interruptTest_withGprs : (s.withGprs x).interruptTest = s.interruptTest.withGprs x := by
  rcases hreq : s.interruptRequest with _ | ⟨code, bdt⟩
  · rw [interruptTest_none s hreq, interruptTest_none (s.withGprs x) hreq]
    rfl
  · rw [interruptTest_some s hreq, interruptTest_some (s.withGprs x) hreq]
    exact takeException_withGprs (s.emit .intEval) x code bdt

theorem branchTest_withGprs : (s.withGprs x).branchTest = s.branchTest.withGprs x := by
  unfold branchTest
  rw [timerTest_withGprs, interruptTest_withGprs]

end State

/-! ### What is kept from one command to the next -/

/-- From `s` to `t` the parts of the invariant other than the boot record are kept. Within BOOT_RUN the
boot record is not legal between two blocks, so it is held apart. -/
structure KeepsRest (s t : State) : Prop where
  mem : Memory.wf s.mem = true → Memory.wf t.mem = true
  zero : s.x[0] = 0#32 → t.x[0] = 0#32
  backend : s.backendWf → t.backendWf
  status : t.out.status = s.out.status

/-- The boot record is kept too. -/
structure KeepsInv (s t : State) : Prop extends KeepsRest s t where
  boot : s.host.bootWf → t.host.bootWf

theorem KeepsRest.trans {s t u : State} (h : KeepsRest s t) (k : KeepsRest t u) : KeepsRest s u :=
  ⟨k.mem ∘ h.mem, k.zero ∘ h.zero, k.backend ∘ h.backend, k.status.trans h.status⟩

theorem KeepsInv.trans {s t u : State} (h : KeepsInv s t) (k : KeepsInv t u) : KeepsInv s u :=
  ⟨h.toKeepsRest.trans k.toKeepsRest, k.boot ∘ h.boot⟩

theorem KeepsInv.refl (s : State) : KeepsInv s s := ⟨⟨id, id, id, rfl⟩, id⟩

theorem KeepsInv.inv {s t : State} (h : KeepsInv s t) (hs : s.Inv) : t.Inv := by
  obtain ⟨hmem, hzero, hboot, hbackend, hstatus⟩ := hs
  exact ⟨h.mem hmem, h.zero hzero, h.boot hboot, h.backend hbackend, h.status.trans hstatus⟩

/-- What collaborators' commands carry along keeps the whole invariant: of the host's state they move the
phase alone, and only to live. -/
theorem Carries.keepsInv {p : Event → Bool} {s t : State} (h : Carries p s t) : KeepsInv s t where
  mem := h.mem
  zero := h.zero
  status := h.status
  boot hb := by
    obtain ⟨ph, hhost⟩ := h.host
    rw [hhost]
    exact hb
  backend := by
    rintro ⟨hlegal, hreinit⟩
    obtain ⟨ph, hhost⟩ := h.host
    have hbackend : t.host.backend = s.host.backend := by rw [hhost]
    refine ⟨?_, fun ht => ?_⟩
    · rw [hbackend, h.tables]
      exact hlegal
    · rcases h.phase with hp | hp
      · rw [hbackend]
        exact hreinit (hp.symm.trans ht)
      · cases hp.symm.trans ht

theorem keepsInv_memoryReplaced (s : State) : KeepsInv s s.memoryReplaced :=
  ⟨⟨fun _ => s.memoryReplaced_wf, id, id, rfl⟩, id⟩

/-- An event, of whatever kind, moves no part of the invariant. -/
theorem keepsInv_emit (s : State) (e : Event) : KeepsInv s (s.emit e) := ⟨⟨id, id, id, rfl⟩, id⟩

/-! ### HOST_INIT (R190, R192) -/

/-- The backend chosen is the Interpreter or one that the host offers (R192). -/
theorem selectBackend_legal (offers : List BackendKind) (k : BackendKind) :
    selectBackend offers k = .interpreter ∨ selectBackend offers k ∈ offers := by
  unfold selectBackend
  split
  · exact .inr ‹_›
  · exact .inl rfl

/-- HOST_INIT returns some status from a state in which the backend is chosen, memory is replaced and the
registers are as they were. -/
theorem State.hostInit_cases (s : State) :
    ∃ (u : State) (v : Int), s.hostInit = u.finishInit v ∧ u.host = s.chooseBackend.host ∧
      u.tables = s.tables ∧ u.mem = [] ∧ u.x = s.x ∧ u.out.status = s.out.status := by
  unfold State.hostInit State.initBackend State.memInit
  split_ifs <;>
    exact ⟨_, _, rfl, by simp, by simp [State.chooseBackend], by simp, by simp [State.chooseBackend],
      by simp [State.chooseBackend]⟩

theorem keepsInv_hostInit (s : State) : KeepsInv s s.hostInit := by
  obtain ⟨u, v, hinit, hhost, htables, hmem, hx, hstatus⟩ := s.hostInit_cases
  have hfin : (u.finishInit v).host =
      { s.host with
          backend := some (selectBackend s.tables.offers s.cfg.backend)
          phase := phaseAfterInit s.host.phase v } := by
    rw [State.finishInit_host, hhost]
    rfl
  rw [hinit]
  refine ⟨⟨?mem, ?zero, ?backend, hstatus⟩, ?boot⟩
  case mem => exact fun _ => congrArg Memory.wf hmem
  case zero =>
    intro hzero
    rw [← hx] at hzero
    exact hzero
  case boot =>
    intro hboot
    rw [hfin]
    exact hboot
  case backend =>
    rintro -
    simp only [State.backendWf, hfin]
    refine ⟨fun k hk => ?_, fun _ => Option.some_ne_none _⟩
    obtain rfl := Option.some.inj hk
    exact htables ▸ selectBackend_legal s.tables.offers s.cfg.backend

/-! ### HOST_SHUTDOWN (R193) -/

theorem State.hostShutdown_zero (s : State) : s.hostShutdown.x[0] = 0#32 := State.freeBlock_zero _

theorem keepsInv_hostShutdown (s : State) : KeepsInv s s.hostShutdown where
  mem _ := by simp [Memory.wf, Memory.risingAbove]
  zero _ := s.hostShutdown_zero
  status := s.hostShutdown_status
  boot hb := by
    rw [State.hostShutdown_host]
    exact hb
  backend _ := by simp [State.backendWf]

/-! ### BOOT_RUN (R197, R198) -/

/-- The boot record's writes move no other part of the invariant. -/
theorem keepsRest_setHost {s : State} {h : HostState} (hbackend : h.backend = s.host.backend)
    (hphase : h.phase = s.host.phase) : KeepsRest s (s.setHost h) where
  mem := id
  zero := id
  status := rfl
  backend hb := by
    simp only [State.backendWf, State.setHost_host, State.setHost_tables, hbackend, hphase]
    exact hb

theorem keepsInv_executeBlock (s : State) (r : BlockReason) : KeepsInv s (s.executeBlock r) :=
  (keepsInv_emit s _).trans (executeBlock_carries s r).keepsInv

/-- A block leaves the count to the Boot Sequencer (R197). -/
theorem State.executeBlock_bootCount (s : State) (r : BlockReason) :
    (s.executeBlock r).host.bootCount = s.host.bootCount := by
  obtain ⟨ph, hhost⟩ := (executeBlock_carries s r).host
  rw [hhost]
  rfl

theorem State.bootBlock_bootCount (s : State) :
    s.bootBlock.host.bootCount = s.host.bootCount + 1 :=
  congrArg (· + 1) (s.executeBlock_bootCount .boot)

theorem keepsRest_bootBlock (s : State) : KeepsRest s s.bootBlock :=
  (keepsInv_executeBlock s .boot).toKeepsRest.trans (keepsRest_setHost rfl rfl)

theorem keepsRest_bootLoop (fuel : Nat) (s : State) : KeepsRest s (State.bootLoop fuel s) := by
  induction fuel generalizing s with
  | zero => exact keepsRest_setHost rfl rfl
  | succ fuel ih =>
    rw [State.bootLoop]
    split
    · exact (keepsRest_bootBlock s).trans (keepsRest_setHost rfl rfl)
    · exact (keepsRest_bootBlock s).trans (ih s.bootBlock)

/-- R198: the loop ends with a legal boot record when the blocks run and the passes left make up
BOOT_CAP. -/
theorem bootLoop_bootWf (fuel : Nat) (s : State) (h : s.host.bootCount + fuel = Config.bootCap) :
    (State.bootLoop fuel s).host.bootWf := by
  induction fuel generalizing s with
  | zero => exact h
  | succ fuel ih =>
    have hcount := s.bootBlock_bootCount
    rw [State.bootLoop]
    split
    · refine show 1 ≤ s.bootBlock.host.bootCount ∧ s.bootBlock.host.bootCount ≤ Config.bootCap from ?_
      omega
    · exact ih s.bootBlock (by omega)

theorem keepsInv_bootDiagnostic (s : State) : KeepsInv s s.bootDiagnostic := by
  unfold State.bootDiagnostic
  split
  · exact keepsInv_emit s _
  · exact .refl s

theorem keepsInv_bootRun (s : State) : KeepsInv s s.bootRun := by
  have hloop : KeepsInv s (State.bootLoop Config.bootCap s.bootStart) :=
    { (keepsRest_setHost rfl rfl : KeepsRest s s.bootStart).trans
        (keepsRest_bootLoop Config.bootCap s.bootStart) with
      boot := fun _ => bootLoop_bootWf Config.bootCap s.bootStart (Nat.zero_add _) }
  exact hloop.trans (keepsInv_bootDiagnostic _)

/-! ### HOST_RESET (R262) -/

theorem keepsInv_resetSequence (s : State) : KeepsInv s s.resetSequence := by
  have hreset : KeepsInv s (s.emit .memReset).memoryReplaced.resetBlock :=
    ((keepsInv_emit s _).trans (keepsInv_memoryReplaced _)).trans
      (Carries.resetBlock (p := Event.ofBlock) _).keepsInv
  have hcalls := ((hreset.trans (keepsInv_emit _ .backendApplyConfig)).trans
    (keepsInv_emit _ .backendReset)).trans (keepsInv_emit _ .hwReset)
  have htimer := (hcalls.trans (Carries.timerAnswer (p := Event.ofBlock) _).keepsInv).trans
    (keepsInv_emit _ .firmwareInit)
  exact htimer.trans s.resetSequence_carries.keepsInv

theorem keepsInv_saveTimingFix (s : State) : KeepsInv s s.saveTimingFix := ⟨keepsRest_setHost rfl rfl, id⟩

theorem keepsInv_tryIntroBypass (s : State) : KeepsInv s s.tryIntroBypass.2 :=
  (keepsInv_emit s .tryIntroBypass).trans
    ((Carries.draw (p := Event.ofBlock) _).trans (Carries.foldl Carries.outsideAct _ _)).keepsInv

theorem keepsInv_bootOrBypass (s : State) : KeepsInv s s.bootOrBypass.2 := by
  unfold State.bootOrBypass
  split
  · exact .refl s
  · split
    · exact (keepsInv_bootRun s).trans (keepsInv_tryIntroBypass _)
    · exact keepsInv_bootRun s

theorem keepsInv_installBootState (s : State) (bypassed : Bool) :
    KeepsInv s (s.installBootState bypassed) := by
  unfold State.installBootState
  split
  · exact (keepsInv_emit s .setupHleBootState).trans
      ((Carries.draw _).trans (Carries.foldl Carries.setupAct _ _)).keepsInv
  · exact .refl s

theorem keepsInv_hostReset (s : State) : KeepsInv s s.hostReset :=
  ((((keepsInv_resetSequence s).trans (keepsInv_saveTimingFix _)).trans
    (keepsInv_bootOrBypass _)).trans (keepsInv_installBootState _ _)).trans
    (Carries.setTimingFix (p := Event.ofBlock) _ _).keepsInv

/-! ### Every command and every step -/

/-- A command that completes keeps the invariant from the state in which it is accepted. -/
theorem exec_keepsInv {i : Instr} {s t : State} (h : exec i s = .next t) : KeepsInv s.accept t := by
  by_cases hb : isBlockCommand i = true
  · rcases exec_block_next hb h with rfl | ⟨v, rfl⟩
    · exact (Carries.blockCommand _ i).keepsInv
    · exact ⟨⟨id, id, id, rfl⟩, id⟩
  · cases i with
    | hostInit =>
      obtain rfl := Host.Outcome.next.inj h
      exact keepsInv_hostInit _
    | hostReset =>
      obtain ⟨-, rfl⟩ := State.whenInitialised_next h
      exact keepsInv_hostReset _
    | hostShutdown =>
      obtain ⟨-, rfl⟩ := State.whenNotShutDown_next h
      exact keepsInv_hostShutdown _
    | jumpTest =>
      obtain ⟨-, rfl⟩ := State.whenLive_next h
      exact (Carries.jumpTest _).keepsInv
    | bootRun =>
      obtain ⟨-, rfl⟩ := State.whenLive_next h
      exact keepsInv_bootRun _
    | gteSpecial w =>
      obtain ⟨-, rfl⟩ := State.whenLive_next h
      exact (Carries.gteSpecialCase _ w).keepsInv
    | _ => exact absurd rfl hb

/-- Accepting a command keeps the invariant: the outputs are cleared and the status is ok. -/
theorem State.Inv.accept {s : State} (h : s.Inv) : s.accept.Inv := by
  obtain ⟨hmem, hzero, hboot, hbackend, -⟩ := h
  exact ⟨hmem, hzero, hboot, hbackend, rfl⟩

/-- No change of the surroundings touches what the invariant speaks of but memory, and that keeps its
form. -/
theorem keepsInv_applyChange (s : State) (c : Change) : KeepsInv s (s.applyChange c) := by
  cases c with
  | setByte a b => exact (Carries.setByte (p := Event.ofBlock) s a b).keepsInv
  | irq q => exact (Carries.setIrq (p := Event.ofBlock) s q).keepsInv
  | cfg c => exact ⟨⟨id, id, id, rfl⟩, id⟩
  | backendInitOnce b => exact ⟨keepsRest_setHost rfl rfl, id⟩

theorem State.whenNotShutDown_of_live {s : State} (h : s.host.phase = .live) (t : State) :
    s.whenNotShutDown t = .next t := by simp [State.whenNotShutDown, h]

theorem State.whenInitialised_of_live {s : State} (h : s.host.phase = .live) (t : State) :
    s.whenInitialised t = .next t := by simp [State.whenInitialised, h]

/-- R28, R264: a live block accepts every command. -/
theorem exec_completes_of_live (i : Instr) {s : State} (h : s.Live) : ∃ t, exec i s = .next t := by
  have hlive : s.host.phase = .live := h
  cases i
  case hostInit => exact ⟨_, rfl⟩
  case hostReset => exact ⟨_, State.whenInitialised_of_live hlive _⟩
  case hostShutdown => exact ⟨_, State.whenNotShutDown_of_live hlive _⟩
  case resetState => exact ⟨_, State.whenNotShutDown_of_live hlive _⟩
  all_goals exact ⟨_, State.whenLive_of_live hlive _⟩

end Sys2Proof.Machine

/-! ### The obligations -/

namespace Sys2Proof.Proofs

open Sys2Proof.Machine

/-- Settles O55: the invariant does not speak of the inputs and answers that a step takes, and every
change and every command keeps it. -/
theorem stepKeepsTheInvariant : Obligations.StepKeepsTheInvariant := by
  intro s t hs hstep
  rcases step_cases hstep with ⟨-, rfl⟩ | ⟨c, rest, -, rfl⟩ | ⟨cw, answers, rest, i, -, -, hexec⟩
  · exact hs
  · exact (keepsInv_applyChange { s with inputs := rest } c).inv hs
  · have htaken : State.Inv { s with inputs := rest, answers := answers } := hs
    exact (exec_keepsInv hexec).inv htaken.accept

/-- Settles O12: the command is accepted, and what it does leaves the status of its acceptance. -/
theorem everyCommandCompletesWhenLive : Obligations.EveryCommandCompletesWhenLive := by
  intro i s hlive
  obtain ⟨t, hexec⟩ := exec_completes_of_live i hlive
  exact ⟨t, hexec, (exec_keepsInv hexec).status⟩

/-- Settles O15, by the law of a register read after a write. -/
theorem registerZeroReadsZero : Obligations.RegisterZeroReadsZero := by
  intro s m n v hlive
  have hwritten : (s.accept.writeGpr m v).Live := by
    simpa only [State.Live, State.writeGpr_host, State.accept_host] using hlive
  refine ⟨State.whenLive_of_live hlive _, ⟨_, State.whenLive_of_live hlive _, rfl⟩,
    ⟨_, _, State.whenLive_of_live hlive _, State.whenLive_of_live hwritten _, ?_⟩⟩
  have hread := s.accept.readGpr_writeGpr m n v
  simp only [eq_comm (a := m)] at hread
  exact congrArg some hread

/-- Settles O57: of the block commands' effects, ADD_CYCLE's and RESET_STATE's alone write `cycle`. -/
theorem onlyAddCycleAndResetMoveTheCounter : Obligations.OnlyAddCycleAndResetMoveTheCounter := by
  intro i s t hb hexec hadd hreset
  rcases exec_block_next hb hexec with rfl | ⟨v, rfl⟩
  · exact s.accept.blockCommand_cycle hadd hreset
  · rfl

/-- Settles O58: an exception's push of SR leaves bit 22, and no other block command writes SR. -/
theorem onlyResetAndWrCp0WriteBev : Obligations.OnlyResetAndWrCp0WriteBev := by
  intro i s t hb hexec hsr hreset
  rcases exec_block_next hb hexec with rfl | ⟨v, rfl⟩
  · exact s.accept.blockCommand_bev hsr hreset
  · rfl

/-- Settles O59, by where a block command's effect can leave `pc`. -/
theorem pcChangesInThreePlaces : Obligations.PcChangesInThreePlaces := by
  intro i s t hb hexec
  rcases exec_block_next hb hexec with rfl | ⟨v, rfl⟩
  · rcases s.accept.blockCommand_pc i with hpc | hpc | hpc | ⟨hi, hpc⟩
    · exact .inl hpc
    · exact .inr (.inl hpc)
    · exact .inr (.inr (.inl hpc))
    · exact .inr (.inr (.inr ⟨hi, hpc ▸ exceptionVector_cases s.accept.sr⟩))
  · exact .inl rfl

/-- Settles O60: taking an exception and BRANCH_TEST commute with replacing the general registers. -/
theorem exceptionsDoNotSeeTheGeneralRegisters :
    Obligations.ExceptionsDoNotSeeTheGeneralRegisters := by
  intro s x code bdt hlive
  have hother : (s.withGprs x).Live := hlive
  refine ⟨⟨_, State.whenLive_of_live hlive _, ?_⟩, ⟨_, State.whenLive_of_live hlive _, ?_⟩⟩
  · exact (State.whenLive_of_live hother _).trans
      (congrArg Host.Outcome.next (s.accept.takeException_withGprs x code bdt))
  · exact (State.whenLive_of_live hother _).trans
      (congrArg Host.Outcome.next (s.accept.branchTest_withGprs x))

end Sys2Proof.Proofs

/-!
PROOFS of the family `20_memory.md`. The fetch port is spoken of byte by byte: a word is its four bytes
(`eq_of_wordByte`), and byte `i` of the word fetched is the byte shown there (`State.wordByte_fetch`).
-/
namespace Sys2Proof.Machine

/-- A change of the surroundings at the head of the inputs is what the step performs. -/
theorem step_change {s : State} {c : Change} {rest : List Input} (h : s.inputs = .change c :: rest) :
    step s = .next (State.applyChange { s with inputs := rest } c) := by
  simp only [step, h, performInput, List.head?_cons, List.tail_cons]

/-- A byte of a word in the default byte order (log 1): the lowest address in bits 7:0 (R62). -/
theorem wordByte_eq_extractLsb' (w : Word) (i : Nat) : wordByte w i = w.extractLsb' (8 * i) 8 := rfl

/-- Two words with the same four bytes are the same word. -/
theorem eq_of_wordByte {v w : Word} (h : ∀ i < 4, wordByte v i = wordByte w i) : v = w := by
  refine BitVec.eq_of_getLsbD_eq fun k hk => ?_
  have hbyte := congrArg (BitVec.getLsbD · (k % 8)) (h (k / 8) (by omega))
  simpa only [wordByte_eq_extractLsb', BitVec.getLsbD_extractLsb', Nat.mod_lt k (by decide : 8 > 0),
    decide_true, Bool.true_and, Nat.div_add_mod] using hbyte

namespace State

/-- The four bytes of a word stored are listed, at every address: one that wraps at 2^32 too. -/
theorem readByte_setWord (s : State) (a w : Word) {i : Nat} (hi : i < 4) :
    (s.setWord a w).readByte (a + BitVec.ofNat 32 i) = some (wordByte w i) := by
  simp only [setWord, readByte_setByte, BitVec.add_right_inj]
  obtain rfl | rfl | rfl | rfl : i = 0 ∨ i = 1 ∨ i = 2 ∨ i = 3 := by omega
  · simp
  · simp
  · simp
  · simp

/-- A word stored at an aligned address is the word fetched there (R70). -/
theorem fetch_setWord (s : State) {a : Word} (h : a.extractLsb' 0 2 = 0#2) (w : Word) :
    (s.setWord a w).fetch a = w :=
  eq_of_wordByte fun _ hi =>
    (wordByte_fetch _ h hi).trans (shownByte_of_listed (s.readByte_setWord a w hi))

/-- Four listed bytes are the word fetched, the lowest address in bits 7:0 (R62). -/
theorem fetch_of_listed {s : State} {a : Word} (h : a.extractLsb' 0 2 = 0#2) {b0 b1 b2 b3 : Byte}
    (h0 : s.readByte a = some b0) (h1 : s.readByte (a + 1#32) = some b1)
    (h2 : s.readByte (a + 2#32) = some b2) (h3 : s.readByte (a + 3#32) = some b3) :
    s.fetch a = b3 ++ b2 ++ b1 ++ b0 := by
  have h0' : s.readByte (a + BitVec.ofNat 32 0) = some b0 := by simpa using h0
  rw [fetch_of_aligned s h, shownByte_of_listed h0', shownByte_of_listed h1, shownByte_of_listed h2,
    shownByte_of_listed h3]
  rfl

end State

end Sys2Proof.Machine

namespace Sys2Proof.Proofs

open Sys2Proof.Machine

/-- Settles O53: the step places the byte, and a byte placed is the one read back. -/
theorem memoryChangeIsReadBack : Obligations.MemoryChangeIsReadBack := by
  intro s a b rest hinputs
  exact ⟨_, step_change hinputs, rfl, fun k => State.readByte_setByte { s with inputs := rest } a k b⟩

/-- Settles O54: byte `i` of the word fetched at an aligned address is the byte shown there, which is the
listed byte, or the oracle's where none is listed. -/
theorem fetchAssemblesTheListedBytes : Obligations.FetchAssemblesTheListedBytes := by
  refine fun s a => ⟨?assembled, ?bytes, ?stored, ?misaligned⟩
  case assembled => exact fun h _ _ _ _ => State.fetch_of_listed h
  case bytes =>
    intro h i hi
    have hshown : (s.fetch a).extractLsb' (8 * i) 8 = s.shownByte a i := s.wordByte_fetch h hi
    refine ⟨fun b hlisted => ?_, fun hunlisted => ?_, s.wordByte_fetch_setByte h hi⟩
    · exact hshown.trans (State.shownByte_of_listed hlisted)
    · exact hshown.trans (State.shownByte_of_unlisted hunlisted)
  case stored => exact fun h => s.fetch_setWord h
  case misaligned => exact s.fetch_of_misaligned

end Sys2Proof.Proofs

/-!
PROOFS of the family `30_encoding.md`. What the decoder makes of a command word is said once, by the row
of the opcode table that has the word's opcode (`decodeCommand_cases`); the obligations about words and
rows are read off from it and from finite facts of the table.
-/
namespace Sys2Proof

/-! ### Words and their fields -/

/-- Two words with the same fields are the same word (R81). -/
theorem cmdWord_ext_iff {cw cw' : CmdWord} :
    cw = cw' ↔ cmdOp cw = cmdOp cw' ∧ cmdIdx cw = cmdIdx cw' ∧ cmdBdt cw = cmdBdt cw' ∧
      cmdRsv cw = cmdRsv cw' ∧ cmdData cw = cmdData cw' := by
  refine ⟨fun h => by simp only [h, and_self], fun ⟨hop, hidx, hbdt, hrsv, hdata⟩ => ?_⟩
  rw [word_eq_fields cw, word_eq_fields cw', hop, hidx, hbdt, hrsv, hdata]

/-- A row accepts a word by each field alone: a mask acts field by field (R84). -/
theorem CommandRow.accepts_iff (r : CommandRow) (cw : CmdWord) :
    r.accepts cw = true ↔ cmdOp cw &&& cmdOp r.mask = cmdOp r.pattern ∧
      cmdIdx cw &&& cmdIdx r.mask = cmdIdx r.pattern ∧
      cmdBdt cw &&& cmdBdt r.mask = cmdBdt r.pattern ∧
      cmdRsv cw &&& cmdRsv r.mask = cmdRsv r.pattern ∧
      cmdData cw &&& cmdData r.mask = cmdData r.pattern := by
  rw [CommandRow.accepts, beq_iff_eq, cmdWord_ext_iff]
  simp only [cmdOp, cmdIdx, cmdBdt, cmdRsv, cmdData, BitVec.extractLsb'_and]

/-! ### The five sets of fields a command uses (R82) -/

/-- Which of `idx`, `bdt` and `data` a command uses. -/
inductive Format where
  | none
  | idx
  | data
  | idxData
  | bdtData

/-- The fields that are not used are 0. -/
def Format.unusedZero : Format → CmdWord → Bool
  | none => usesNone
  | idx => usesIdx
  | data => usesData
  | idxData => usesIdxData
  | bdtData => usesBdtData

/-- The mask of a row of this format: the opcode and the fields that are not used. -/
def Format.mask : Format → CmdWord
  | none => 0xFFFFFFFFFFFF#48
  | idx => 0xF83FFFFFFFFF#48
  | data => 0xFFFF00000000#48
  | idxData => 0xF83F00000000#48
  | bdtData => 0xFFCF00000000#48

/-- The word with the opcode `op` and those fields of `cw` that are used. -/
def Format.word (op : BitVec 5) (cw : CmdWord) : Format → CmdWord
  | none => cmdWord op 0#5 0#2 0#32
  | idx => cmdWord op (cmdIdx cw) 0#2 0#32
  | data => cmdWord op 0#5 0#2 (cmdData cw)
  | idxData => cmdWord op (cmdIdx cw) 0#2 (cmdData cw)
  | bdtData => cmdWord op 0#5 (cmdBdt cw) (cmdData cw)

/-- A word whose unused fields are 0 is built of its opcode and the fields used. -/
theorem Format.word_of_unusedZero {f : Format} {cw : CmdWord} (h : f.unusedZero cw = true) :
    f.word (cmdOp cw) cw = cw := by
  cases f <;>
    simp only [unusedZero, usesNone, usesIdx, usesData, usesIdxData, usesBdtData, Bool.and_eq_true,
      beq_iff_eq] at h <;>
    simp [word, cmdWord_ext_iff, h]

/-- A row of this format and of the word's opcode accepts the word iff the unused fields are 0 (R84). -/
theorem Format.accepts_eq_unusedZero (f : Format) (mnemonic : String) (cw : CmdWord) :
    CommandRow.accepts ⟨mnemonic, f.mask, cmdWord (cmdOp cw) 0#5 0#2 0#32⟩ cw = f.unusedZero cw := by
  have hop : cmdOp cw &&& cmdOp f.mask = cmdOp cw := by cases f <;> exact BitVec.and_allOnes
  have hrsv : cmdRsv cw &&& cmdRsv f.mask = cmdRsv cw := by cases f <;> exact BitVec.and_allOnes
  have hidx : ∀ x : RegNum, x &&& 31#5 = x := fun _ => BitVec.and_allOnes
  have hbdt : ∀ x : Bdt, x &&& 3#2 = x := fun _ => BitVec.and_allOnes
  have hdata : ∀ x : Word, x &&& 4294967295#32 = x := fun _ => BitVec.and_allOnes
  rw [Bool.eq_iff_iff, CommandRow.accepts_iff]
  simp only [hop, hrsv, cmdOp_cmdWord, cmdIdx_cmdWord, cmdBdt_cmdWord, cmdRsv_cmdWord,
    cmdData_cmdWord, true_and]
  cases f <;>
    simp [mask, unusedZero, usesNone, usesIdx, usesData, usesIdxData, usesBdtData, and_assoc, cmdIdx,
      cmdBdt, cmdData, hidx, hbdt, hdata]

/-! ### The decoder by the rows of the table (R82, R84, R85) -/

/-- The row that has this opcode. -/
def rowOf (op : BitVec 5) : Option CommandRow := commandRows.find? (cmdOp ·.pattern == op)

/-- The opcodes of R85 are those no row has. -/
theorem rowOf_eq_none_iff : ∀ op : BitVec 5, rowOf op = none ↔
    op ∈ [0x00#5, 0x14#5, 0x15#5, 0x16#5, 0x17#5, 0x1D#5, 0x1E#5, 0x1F#5] := by decide

/-- The opcodes of R82. -/
theorem rowOf_eq_none_or : ∀ op : BitVec 5, rowOf op = none ∨
    op.toNat ∈ [0x01, 0x02, 0x03, 0x04, 0x05, 0x06, 0x07, 0x08, 0x09, 0x0A, 0x0B, 0x0C, 0x0D, 0x0E, 0x0F,
      0x10, 0x11, 0x12, 0x13, 0x18, 0x19, 0x1A, 0x1B, 0x1C] := by decide

/-- Every row compares the whole opcode, and no other row has it. -/
theorem rowOf_cmdOp_pattern : ∀ r ∈ commandRows,
    cmdOp r.mask = 0x1F#5 ∧ rowOf (cmdOp r.pattern) = some r := by decide

/-- No two rows have the same mnemonic. -/
theorem eq_of_mnemonic_eq :
    ∀ r ∈ commandRows, ∀ r' ∈ commandRows, r.mnemonic = r'.mnemonic → r = r' := by decide

/-- A row that accepts a word is the one with the word's opcode. -/
theorem rowOf_of_accepts {r : CommandRow} {cw : CmdWord} (hr : r ∈ commandRows)
    (h : r.accepts cw = true) : rowOf (cmdOp cw) = some r := by
  obtain ⟨hmask, hrow⟩ := rowOf_cmdOp_pattern r hr
  obtain ⟨hop, -⟩ := (r.accepts_iff cw).mp h
  rw [hmask, show cmdOp cw &&& 0x1F#5 = cmdOp cw from BitVec.and_allOnes] at hop
  rwa [hop]

theorem mem_of_rowOf {op : BitVec 5} {r : CommandRow} (h : rowOf op = some r) : r ∈ commandRows :=
  List.mem_of_find?_eq_some h

/-- `r` is the row of the word's opcode, and the decoder reads `i` from the word iff the row accepts
it. -/
structure RowReads (cw : CmdWord) (r : CommandRow) (i : Instr) : Prop where
  row : rowOf (cmdOp cw) = some r
  mnemonic : r.mnemonic = i.mnemonic
  decoded : decodeCommand cw = ifUnusedZero (r.accepts cw) i
  encoded : r.accepts cw = true → encode i = .command cw

/-- A branch of the decoder for the opcode `n` reads a row of the format whose fields it checks. -/
theorem RowReads.of_branch {cw : CmdWord} {i : Instr} {n : Nat} (f : Format)
    (hop : (cmdOp cw).toNat = n) (hdecoded : decodeCommand cw = ifUnusedZero (f.unusedZero cw) i)
    (hrow : rowOf (BitVec.ofNat 5 n) =
      some ⟨i.mnemonic, f.mask, cmdWord (BitVec.ofNat 5 n) 0#5 0#2 0#32⟩)
    (hencode : encode i = .command (f.word (BitVec.ofNat 5 n) cw)) :
    RowReads cw ⟨i.mnemonic, f.mask, cmdWord (cmdOp cw) 0#5 0#2 0#32⟩ i := by
  rw [← cmdOp_of_toNat hop] at hrow hencode
  have haccepts := f.accepts_eq_unusedZero i.mnemonic cw
  refine ⟨hrow, rfl, haccepts ▸ hdecoded, fun h => ?_⟩
  rw [hencode, Format.word_of_unusedZero (haccepts ▸ h)]

/-- What the decoder makes of a word: its opcode is reserved, or the row with its opcode says what it
is. -/
theorem decodeCommand_cases (cw : CmdWord) :
    (rowOf (cmdOp cw) = none ∧ decodeCommand cw = .error .reservedOpcode) ∨
      ∃ r i, RowReads cw r i := by
  obtain ⟨e, he⟩ : ∃ e, decodeCommand cw = e := ⟨_, rfl⟩
  have hbranch := he
  unfold decodeCommand at hbranch
  split at hbranch <;> rename_i hop <;> subst hbranch
  case h_1 | h_9 => exact .inr ⟨_, _, .of_branch .idx hop he rfl rfl⟩
  case h_2 | h_10 => exact .inr ⟨_, _, .of_branch .idxData hop he rfl rfl⟩
  case h_4 | h_6 | h_8 | h_12 | h_15 | h_16 => exact .inr ⟨_, _, .of_branch .data hop he rfl rfl⟩
  case h_17 => exact .inr ⟨_, _, .of_branch .bdtData hop he rfl rfl⟩
  case h_25 =>
    refine .inl ⟨(rowOf_eq_none_or (cmdOp cw)).resolve_right ?_, he⟩
    simp only [List.mem_cons, List.not_mem_nil, or_false, not_or]
    and_intros <;> assumption
  all_goals exact .inr ⟨_, _, .of_branch .none hop he rfl rfl⟩

/-- A word that decodes is one that the row of its opcode accepts. -/
theorem decodeCommand_ok {cw : CmdWord} {i : Instr} (h : decodeCommand cw = .ok i) :
    ∃ r, RowReads cw r i ∧ r.accepts cw = true := by
  rcases decodeCommand_cases cw with ⟨-, herror⟩ | ⟨r, j, hreads⟩
  · cases herror.symm.trans h
  · obtain ⟨haccepts, rfl⟩ := ifUnusedZero_ok (hreads.decoded.symm.trans h)
    exact ⟨r, hreads, haccepts⟩

/-- A word that a row of the table accepts decodes to an instruction of that row. -/
theorem decodeCommand_of_accepts {cw : CmdWord} {r : CommandRow} (hr : r ∈ commandRows)
    (h : r.accepts cw = true) : ∃ i, RowReads cw r i ∧ decodeCommand cw = .ok i := by
  have hrow := rowOf_of_accepts hr h
  rcases decodeCommand_cases cw with ⟨hnone, -⟩ | ⟨r', i, hreads⟩
  · cases hnone.symm.trans hrow
  · obtain rfl : r' = r := Option.some.inj (hreads.row.symm.trans hrow)
    refine ⟨i, hreads, ?_⟩
    rw [hreads.decoded, h]
    rfl

/-- An opcode is reserved for the decoder iff no row has it (R85). -/
theorem decodeCommand_reserved_iff (cw : CmdWord) :
    decodeCommand cw = .error .reservedOpcode ↔ rowOf (cmdOp cw) = none := by
  rcases decodeCommand_cases cw with ⟨hnone, herror⟩ | ⟨r, i, hreads⟩
  · exact iff_of_true herror hnone
  · have hdecoded := hreads.decoded
    refine iff_of_false (fun herror => ?_) (by simp [hreads.row])
    rw [herror, ifUnusedZero] at hdecoded
    split at hdecoded <;> cases hdecoded

/-- A command word is not decoded for one of two reasons (R84, R85). -/
theorem decodeCommand_of_not_accepted {cw : CmdWord} (h : ∀ r ∈ commandRows, r.accepts cw = false) :
    decodeCommand cw = .error .reservedOpcode ∨ decodeCommand cw = .error .unusedFieldNonZero := by
  rcases decodeCommand_cases cw with ⟨-, herror⟩ | ⟨r, i, hreads⟩
  · exact .inl herror
  · right
    rw [hreads.decoded, h r (mem_of_rowOf hreads.row)]
    rfl

/-- The decoder reads back what the encoder writes: each field of a command word reads back (R81). -/
theorem decodeCommand_of_encode {i : Instr} {cw : CmdWord} (h : encode i = .command cw) :
    decodeCommand cw = .ok i := by
  cases i with
  | gteSpecial w => cases h
  | _ =>
    obtain rfl := Encoded.command.inj h
    simp [decodeCommand, ifUnusedZero, usesNone, usesIdx, usesData, usesIdxData, usesBdtData]

/-! ### The geometry-coprocessor word (R90) -/

/-- The one target-CPU word that is decoded is the well-formed GTE_SPECIAL. -/
theorem decodeInsn_ok_iff {w : Word} {i : Instr} :
    decodeInsn w = .ok i ↔ i = .gteSpecial w ∧ i.wellFormed = true := by
  unfold decodeInsn
  split
  case isTrue h =>
    refine ⟨fun hi => ?_, fun ⟨hi, _⟩ => hi ▸ rfl⟩
    obtain rfl := Except.ok.inj hi
    exact ⟨rfl, h⟩
  case isFalse h =>
    refine ⟨fun hi => (nomatch hi), ?_⟩
    rintro ⟨rfl, hwf⟩
    exact absurd hwf h

/-- The one instruction whose encoding is a target-CPU word. -/
theorem encode_eq_insn_iff {i : Instr} {w : Word} : encode i = .insn w ↔ i = .gteSpecial w := by
  cases i with
  | gteSpecial v =>
    exact ⟨fun h => congrArg _ (Encoded.insn.inj h), fun h => congrArg _ (Instr.gteSpecial.inj h)⟩
  | _ => exact ⟨fun h => (nomatch h), fun h => (nomatch h)⟩

/-- Every command term is well formed (R83). -/
theorem wellFormed_of_encode {i : Instr} {cw : CmdWord} (h : encode i = .command cw) :
    i.wellFormed = true := by
  cases i with
  | gteSpecial w => cases h
  | _ => rfl

/-- The high `n` bits of a word compared under a mask. -/
theorem extractLsb'_eq_iff_and_eq {n k : Nat} (w : BitVec (n + k)) (p : BitVec n) :
    w.extractLsb' k n = p ↔ w &&& (BitVec.allOnes n ++ 0#k) = p ++ 0#k := by
  conv_rhs => rw [← w.extractLsb'_append_extractLsb']
  rw [BitVec.and_append, append_eq_append, BitVec.and_allOnes, BitVec.and_zero, and_iff_left rfl]

end Sys2Proof

namespace Sys2Proof.Machine

/-! ### The step (R80) -/

/-- A command word at the head of the inputs is what the step performs. -/
theorem step_command {s : State} {cw : CmdWord} {answers : List Answer} {rest : List Input}
    (h : s.inputs = .command cw answers :: rest) :
    step s = performWord cw { s with inputs := rest, answers := answers } := by
  simp only [step, h, performInput, List.head?_cons, List.tail_cons]

theorem performWord_of_ok {cw : CmdWord} {i : Instr} (h : decodeCommand cw = .ok i) (s : State) :
    performWord cw s = exec i s := by
  simp only [performWord, h]

theorem performWord_of_error {cw : CmdWord} {e : DecodeError} (h : decodeCommand cw = .error e)
    (s : State) : performWord cw s = .refused (refusalOf e) := by
  simp only [performWord, h]

/-! ### The placement of a word of the table (log 7) -/

/-- `pc` as the placement aligns it is a multiple of 4. -/
theorem and_not_three_aligned (a : Word) : (a &&& ~~~3#32).extractLsb' 0 2 = 0#2 := by
  rw [BitVec.extractLsb'_and]
  exact BitVec.and_zero

theorem withFetchWord_command (s : State) (cw : CmdWord) :
    s.withFetchWord 48 cw.toNat = s.present (.command cw []) := by
  simp [State.withFetchWord, State.placeWord]

theorem withFetchWord_insn (s : State) (w : Word) : s.withFetchWord 32 w.toNat = s.placeInsn w := by
  simp [State.withFetchWord, State.placeWord]

/-- Presented alone, a command word is performed with no answer ready. -/
theorem step_withFetchWord_command {s : State} {cw : CmdWord} {i : Instr}
    (h : decodeCommand cw = .ok i) :
    step (s.withFetchWord 48 cw.toNat) = exec i { s with answers := [] } := by
  rw [withFetchWord_command, step_command (State.present_inputs s _), performWord_of_ok h]
  rfl

/-- The state in which the RAISE presented with a target-CPU word is performed. -/
def insnPlaced (s : State) (w : Word) : State :=
  { s.placeInsn w with inputs := s.inputs, answers := [] }

theorem step_withFetchWord_insn (s : State) (w : Word) :
    step (s.withFetchWord 32 w.toNat) = exec (.raise 0#32 0#2) (insnPlaced s w) := by
  have hraise : decodeCommand raiseWord = .ok (.raise 0#32 0#2) := by decide
  rw [withFetchWord_insn, step_command rfl, performWord_of_ok hraise]
  rfl

/-- The word placed is the word that the dispatcher fetches. -/
theorem insnPlaced_fetch_pc (s : State) (w : Word) :
    (insnPlaced s w).fetch (insnPlaced s w).pc = w :=
  State.fetch_setWord _ (and_not_three_aligned s.pc) w

/-! ### The call gates and the kernel segment (R91, R92) -/

/-- GATE_MASK keeps the low 21 bits. -/
theorem and_gateMask_eq_iff (pc a : Word) :
    pc &&& Config.gateMask = a ↔ pc.toNat % 2 ^ 21 = a.toNat := by
  rw [← BitVec.toNat_inj, BitVec.toNat_and, ← Nat.and_two_pow_sub_one_eq_mod]
  rfl

/-- Each gate is at its address of log 1; the three differ, so the order of the comparisons is not
seen. -/
theorem gateOf_eq_some_iff (pc : Word) :
    (gateOf pc = some .a ↔ pc.toNat % 2 ^ 21 = 0xA0) ∧
    (gateOf pc = some .b ↔ pc.toNat % 2 ^ 21 = 0xB0) ∧
    (gateOf pc = some .c ↔ pc.toNat % 2 ^ 21 = 0xC0) := by
  have h := and_gateMask_eq_iff pc
  unfold gateOf
  simp only [h, Config.gateA, Config.gateB, Config.gateC, BitVec.toNat_ofNat]
  split_ifs <;>
    simp only [Option.some.injEq, reduceCtorEq, true_iff, false_iff] <;> omega

/-! ### Command lines (R89) -/

/-- A digit as `Nat.toDigits` writes it is read as its value, in base 10 and in base 16. -/
theorem digitValue_digitChar {base d : Nat} (hbase : base = 10 ∨ base = 16) (hd : d < base) :
    digitValue base d.digitChar = some d := by
  have h : ∀ d < 16, (d < 10 → digitValue 10 d.digitChar = some d) ∧
      digitValue 16 d.digitChar = some d := by decide
  rcases hbase with rfl | rfl
  · exact (h d (by omega)).1 hd
  · exact (h d hd).2

/-- One more digit at the end. -/
theorem digitsValue_concat {base : Nat} {c : Char} {d : Nat} (hc : digitValue base c = some d)
    (text : List Char) (acc : Nat) :
    digitsValue base (text ++ [c]) acc = (digitsValue base text acc).map (· * base + d) := by
  induction text generalizing acc with
  | nil => simp [digitsValue, hc]
  | cons c' text ih =>
    simp only [List.cons_append, digitsValue]
    split
    · exact ih _
    · rfl

/-- The digits of a number are read as the number. -/
theorem digitsValue_toDigits {base : Nat} (hbase : base = 10 ∨ base = 16) (n : Nat) :
    digitsValue base (Nat.toDigits base n) 0 = some n := by
  induction n using Nat.strongRecOn with
  | ind n ih =>
    have hdigit := fun d => digitValue_digitChar (d := d) hbase
    have hgt : 1 < base := by omega
    by_cases hn : n < base
    · simp [Nat.toDigits_of_lt_base hn, digitsValue, hdigit n hn]
    · have hlast := hdigit (n % base) (Nat.mod_lt n (by omega))
      rw [Nat.toDigits_of_base_le hgt (by omega), digitsValue_concat hlast,
        ih _ (Nat.div_lt_self (by omega) hgt), Option.map_some, Nat.div_add_mod']

/-- Digits in decimal are a number: what follows `0x` would be no decimal digit. -/
theorem number_of_decimal {text : List Char} {n : Nat} (hne : text ≠ [])
    (h : digitsValue 10 text 0 = some n) : number text = some n := by
  unfold number
  split
  · exact absurd rfl hne
  · cases h
  · cases h
  · exact h

theorem number_of_hex {text : List Char} (hne : text ≠ []) :
    number ('0' :: 'x' :: text) = digitsValue 16 text 0 := by
  cases text with
  | nil => exact absurd rfl hne
  | cons => rfl

theorem fitted_of_number {w : Nat} {text : List Char} {v : BitVec w}
    (h : number text = some v.toNat) : fitted w text = some v := by
  simp [fitted, h, v.isLt]

/-- The decimal digits of a value are the value. -/
theorem fitted_decimal {w : Nat} (v : BitVec w) : fitted w (Nat.toDigits 10 v.toNat) = some v :=
  fitted_of_number (number_of_decimal Nat.toDigits_ne_nil (digitsValue_toDigits (.inl rfl) _))

/-- The hexadecimal digits of a value after `0x` are the value. -/
theorem fitted_hex {w : Nat} (v : BitVec w) :
    fitted w ('0' :: 'x' :: Nat.toDigits 16 v.toNat) = some v :=
  fitted_of_number ((number_of_hex Nat.toDigits_ne_nil).trans (digitsValue_toDigits (.inr rfl) _))

/-- A text that is a number is none of the four names of cells. -/
theorem cp0Operand_of_fitted {text : List Char} {n : RegNum} (h : fitted 5 text = some n) :
    cp0Operand text = some n := by
  unfold cp0Operand
  split
  case h_5 => exact h
  all_goals
    obtain rfl := String.ofList_eq.mp ‹String.ofList text = _›
    cases (show none = some n from h)

theorem gprOperand_of_fitted {text : List Char} {n : RegNum} (h : fitted 5 text = some n) :
    gprOperand ('r' :: text) = some n := by
  simp [gprOperand, h]

/-- Each conventional name is read as the register whose place it has (R20). -/
theorem gprOperand_name : ∀ n : RegNum, ∀ name ∈ gprNames[n.toNat]?,
    gprOperand name.toList = some n := by decide

theorem parseTokens_unary (m : String) (a : List Char) :
    parseTokens [.word m.toList, .word a] = unaryCommand m a := by
  rw [parseTokens, String.ofList_toList]

theorem parseTokens_binary (m : String) (a b : List Char) :
    parseTokens [.word m.toList, .word a, .comma, .word b] = binaryCommand m a b := by
  rw [parseTokens, String.ofList_toList]

end Sys2Proof.Machine

namespace Sys2Proof.Proofs

open Sys2Proof.Machine

/-- Settles O1: every field of a command word reads back from it, and the word of a well-formed
GTE_SPECIAL has the pattern. -/
theorem decodeOfEncodeIsTheInstruction : Obligations.DecodeOfEncodeIsTheInstruction := by
  intro i hwf
  rcases hencode : encode i with cw | w
  · exact decodeCommand_of_encode hencode
  · obtain rfl : i = .gteSpecial w := encode_eq_insn_iff.mp hencode
    exact decodeInsn_ok_iff.mpr ⟨rfl, hwf⟩

/-- Settles O2: a command word that decodes is accepted by the row of its opcode, so it is built of the
fields that the row's command uses. -/
theorem encodeOfDecodeIsTheWord : Obligations.EncodeOfDecodeIsTheWord := by
  intro e i h
  cases e with
  | command cw =>
    obtain ⟨r, hreads, haccepts⟩ := decodeCommand_ok h
    have hencode := hreads.encoded haccepts
    exact ⟨wellFormed_of_encode hencode, hencode⟩
  | insn w =>
    obtain ⟨rfl, hwf⟩ := decodeInsn_ok_iff.mp h
    exact ⟨hwf, rfl⟩

/-- Settles O3: a row accepts words of its own opcode only, and the decoder asks the row of the word's
opcode. -/
theorem commandWordsAreTheRowsOfTheTable : Obligations.CommandWordsAreTheRowsOfTheTable := by
  refine fun cw => ⟨⟨?decoded, ?accepted⟩, ?own, ?refused⟩
  case decoded =>
    rintro ⟨i, h⟩
    obtain ⟨r, hreads, haccepts⟩ := decodeCommand_ok h
    exact ⟨r, mem_of_rowOf hreads.row, haccepts⟩
  case accepted =>
    rintro ⟨r, hr, haccepts⟩
    obtain ⟨i, -, hi⟩ := decodeCommand_of_accepts hr haccepts
    exact ⟨i, hi⟩
  case own =>
    intro i h r hr
    constructor
    · intro haccepts
      obtain ⟨j, hreads, hj⟩ := decodeCommand_of_accepts hr haccepts
      rw [hreads.mnemonic, Except.ok.inj (hj.symm.trans h)]
    · intro hmnemonic
      obtain ⟨r', hreads, haccepts⟩ := decodeCommand_ok h
      rwa [eq_of_mnemonic_eq r hr r' (mem_of_rowOf hreads.row) (hmnemonic.trans hreads.mnemonic.symm)]
  case refused =>
    intro s answers rest hinputs hnone
    rw [step_command hinputs]
    exact (decodeCommand_of_not_accepted hnone).imp (performWord_of_error · _)
      (performWord_of_error · _)

/-- Settles O4: the reserved opcodes are those no row of the table has. -/
theorem reservedOpcodesAreRefused : Obligations.ReservedOpcodesAreRefused := by
  intro cw
  have hreserved := (decodeCommand_reserved_iff cw).trans (rowOf_eq_none_iff (cmdOp cw))
  refine ⟨hreserved, fun s answers rest hinputs hop => ?_⟩
  rw [step_command hinputs, performWord_of_error (hreserved.mpr hop)]
  rfl

/-- Settles O6: the pattern is the top seven bits, compared under a mask. -/
theorem gtePatternIsTheTopSevenBits : Obligations.GtePatternIsTheTopSevenBits := by
  refine fun w => ⟨?_, extractLsb'_eq_iff_and_eq (n := 7) (k := 25) w Config.gteTop7,
    fun i h => (decodeInsn_ok_iff.mp h).1, ?_⟩
  · rw [decodeInsn_ok_iff, and_iff_right rfl, Instr.wellFormed, beq_iff_eq]
  · simp [gteIndex]

/-- Settles O7: digits are read as the number they write, and each mnemonic as its command. -/
theorem commandSyntaxReachesTheCommands : Obligations.CommandSyntaxReachesTheCommands := by
  refine ⟨fun n => ⟨gprOperand_of_fitted (fitted_decimal n), gprOperand_name n,
    cp0Operand_of_fitted (fitted_decimal n)⟩, ⟨?_, ?_, ?_, ?_⟩,
    fun v => ⟨fitted_decimal v, fitted_hex v⟩, fitted_decimal, ?gpr, ?cp0, ?value, ?raise, ?plain,
    ?pseudo⟩
  case gpr | cp0 =>
    intro a v n x hn hx
    rw [parseTokens_unary, parseTokens_binary]
    simp [unaryCommand, binaryCommand, withBoth, hn, hx]
  case value =>
    intro v x hx
    simp only [parseTokens_unary, unaryCommand, hx, Option.map_some, and_self]
  case raise =>
    intro v d x bdt hx hbdt
    simp only [parseTokens_binary, binaryCommand, withBoth, hx, hbdt]
  case plain => decide
  case pseudo => decide
  all_goals decide

/-- Settles O11: a command's word decodes to it, and a word stored at the aligned `pc` is the word
fetched there. -/
theorem withFetchWordReachesTheInstruction : Obligations.WithFetchWordReachesTheInstruction := by
  refine fun s i _ => ⟨fun cw hencode => ?command, fun w _ => ?insn⟩
  case command => exact step_withFetchWord_command (decodeCommand_of_encode hencode)
  case insn =>
    exact ⟨insnPlaced s w, step_withFetchWord_insn s w, insnPlaced_fetch_pc s w, rfl, rfl, rfl⟩

/-- Settles O47: GATE_MASK keeps the low 21 bits, and the call number is the low byte. -/
theorem gateAndCallNumber : Obligations.GateAndCallNumber :=
  ⟨gateOf_eq_some_iff, fun s => by simp [State.callNumber]⟩

/-- Settles O50: the segment is decided by the top nine bits, compared under a mask or by the bounds of the
segment. -/
theorem kernelSegmentIsTheTopNineBits : Obligations.KernelSegmentIsTheTopNineBits := by
  intro pc
  have htop : inKernelSegment pc = true ↔ pc.extractLsb' 23 9 = Config.kernelPrefix9 := beq_iff_eq
  refine ⟨htop, htop.trans (extractLsb'_eq_iff_and_eq (n := 9) (k := 23) pc _), htop.trans ?_⟩
  rw [← BitVec.toNat_inj, BitVec.extractLsb'_toNat, Nat.shiftRight_eq_div_pow,
    show Config.kernelPrefix9.toNat = 0x100 from rfl]
  omega

/-- Settles O5, by decoding each word. -/
theorem writtenOutWordsDecode : Obligations.WrittenOutWordsDecode := by
  unfold Obligations.WrittenOutWordsDecode
  decide

/-- Settles O8: the step takes the input and performs its word. -/
theorem stepPerformsTheDecodedCommand : Obligations.StepPerformsTheDecodedCommand := by
  intro s cw answers rest i hinputs hdecode
  rw [step_command hinputs, performWord_of_ok hdecode]

end Sys2Proof.Proofs

/-!
PROOFS of the family `40_register_access.md`. On a live block a port's next state is the one its effect
names (`State.whenLive_of_live`); what is left is what the effect means later on: the comparator in naturals
(`timerDue_iff`), and the calls that BRANCH_TEST lists (`State.timerUpdate_mem_branchTest`).
-/
namespace Sys2Proof.Machine

/-! ### The comparator (`42_event_scheduler.md` R171) -/

theorem timerDue_iff (cycle base event : Word) :
    timerDue cycle base event = true ↔
      event.toNat ≤ (cycle.toNat + (2 ^ 32 - base.toNat)) % 2 ^ 32 := by
  rw [timerDue, BitVec.ule_iff_toNat_le, elapsed, BitVec.toNat_sub, Nat.add_comm]

theorem timerDue_zero (cycle base : Word) : timerDue cycle base 0#32 = true :=
  (timerDue_iff cycle base 0#32).mpr (Nat.zero_le _)

/-- A baseline above `cycle`: the elapsed count wraps (R115). -/
theorem timerDue_iff_of_lt {cycle base : Word} (h : cycle.toNat < base.toNat) (event : Word) :
    timerDue cycle base event = true ↔ event.toNat ≤ 2 ^ 32 + cycle.toNat - base.toNat := by
  have hwrap : (cycle.toNat + (2 ^ 32 - base.toNat)) % 2 ^ 32 = 2 ^ 32 + cycle.toNat - base.toNat := by
    have := base.isLt
    omega
  rw [timerDue_iff, hwrap]

/-! ### Cause on entry, bit by bit (`41_exception_dispatch.md` R144) -/

theorem causeOnEntry_getLsbD (bdt : Bdt) (old code : Word) {k : Nat} (hk : k < 32) :
    (causeOnEntry bdt old code).getLsbD k =
      (((decide (k = 31) && bdt.getLsbD 1) || (decide (k = 30) && bdt.getLsbD 0)) ||
        (decide (8 ≤ k ∧ k ≤ 10) && old.getLsbD k) || code.getLsbD k) := by
  rw [causeOnEntry, BitVec.getLsbD_or, BitVec.getLsbD_or, bdtBits_getLsbD bdt hk,
    causeKeep_getLsbD old hk]

/-- Bits 10:8 keep what was there, and take the code's bits beside it. -/
theorem causeOnEntry_getLsbD_kept (bdt : Bdt) (old code : Word) {k : Nat} (h8 : 8 ≤ k) (h10 : k ≤ 10) :
    (causeOnEntry bdt old code).getLsbD k = (old.getLsbD k || code.getLsbD k) := by
  have h31 : k ≠ 31 := by omega
  have h30 : k ≠ 30 := by omega
  simp [causeOnEntry_getLsbD bdt old code (by omega : k < 32), h8, h10, h31, h30]

namespace State

variable (s : State)

/-! ### A register written: the form in which statements say it -/

theorem writeGpr_eq (n : RegNum) (v : Word) :
    s.writeGpr n v = { s with x := if n = 0#5 then s.x else s.x.set n.toNat v n.isLt } := by
  by_cases hn : n = 0#5
  · rw [hn, writeGpr_zero, if_pos rfl]
  · rw [writeGpr_of_ne s hn, if_neg hn]

/-- A read port of a live block answers `v` and changes nothing. -/
theorem whenLive_setRdata {s : State} (h : s.Live) (v : Word) :
    s.whenLive (s.accept.setRdata v) = .next { s with out := Output.read v } :=
  whenLive_of_live h _

/-! ### The calls that an exception and BRANCH_TEST list (`30_encoding.md` R80) -/

theorem gteSpecialCase_events (w : Word) :
    (s.gteSpecialCase w).out.events = s.out.events ++
      if s.cfg.hle = false ∧ isGteWord w = true ∧ gteIndex w ∈ s.tables.gteEntries then
        [.gteHandler (gteIndex w) w]
      else [] := by
  unfold gteSpecialCase
  split
  · rfl
  · exact (List.append_nil _).symm

/-- The fetch, and the handler where the special case applies one. -/
theorem takeException_events (code : Word) (bdt : Bdt) :
    (s.takeException code bdt).out.events =
      ((s.emit (.fetch s.pc)).gteSpecialCase (s.fetch s.pc)).out.events := rfl

/-- An exception does not call the timer update. -/
theorem timerUpdate_mem_takeException (code : Word) (bdt : Bdt) :
    Event.timerUpdate ∈ (s.takeException code bdt).out.events ↔ Event.timerUpdate ∈ s.out.events := by
  rw [takeException_events, gteSpecialCase_events]
  split
  · simp
  · simp

theorem timerUpdate_mem_interruptTest :
    Event.timerUpdate ∈ s.interruptTest.out.events ↔ Event.timerUpdate ∈ s.out.events := by
  cases hrequest : s.interruptRequest with
  | none => simp [interruptTest_none s hrequest]
  | some r => simp [interruptTest_some s hrequest, timerUpdate_mem_takeException]

theorem timerUpdate_mem_timerTest :
    Event.timerUpdate ∈ s.timerTest.out.events ↔
      Event.timerUpdate ∈ s.out.events ∨ timerDue s.cycle s.nextBase s.nextEvent = true := by
  cases hdue : timerDue s.cycle s.nextBase s.nextEvent with
  | true => simp [timerTest_due s hdue]
  | false => simp [timerTest_not_due s hdue]

/-- BRANCH_TEST calls the update exactly when the comparator triggers (R170, R171). -/
theorem timerUpdate_mem_branchTest :
    Event.timerUpdate ∈ s.branchTest.out.events ↔
      Event.timerUpdate ∈ s.out.events ∨ timerDue s.cycle s.nextBase s.nextEvent = true :=
  s.timerTest.timerUpdate_mem_interruptTest.trans s.timerUpdate_mem_timerTest

end State

/-- On a live block BRANCH_TEST completes, and the update stands in its calls exactly when the comparator
triggers. -/
theorem exec_branchTest_timerUpdate {s : State} (h : s.Live) :
    ∃ t, exec .branchTest s = .next t ∧
      (Event.timerUpdate ∈ t.out.events ↔ timerDue s.cycle s.nextBase s.nextEvent = true) :=
  ⟨_, State.whenLive_of_live h _,
    s.accept.timerUpdate_mem_branchTest.trans (or_iff_right List.not_mem_nil)⟩

end Sys2Proof.Machine

namespace Sys2Proof.Proofs

open Sys2Proof.Machine

/-- Settles O18: each port stores its value, and the comparator that the next BRANCH_TEST asks is read from
the register written. -/
theorem schedulerPortsStoreTheValue : Obligations.SchedulerPortsStoreTheValue := by
  intro s v hlive
  refine ⟨State.whenLive_of_live hlive _, State.whenLive_of_live hlive _, ?due, ?zero, ?above⟩
  case due =>
    rintro cycle base rfl
    exact timerDue_zero cycle base
  case zero =>
    rintro rfl u hu hevent
    obtain ⟨w, hexec, hcalls⟩ := exec_branchTest_timerUpdate hu
    exact ⟨w, hexec, hcalls.mpr (hevent ▸ timerDue_zero u.cycle u.nextBase)⟩
  case above =>
    intro hlt
    have hdue := timerDue_iff_of_lt hlt s.nextEvent
    have hwritten : (s.accept.setNextBase v).Live := hlive
    obtain ⟨w, hexec, hcalls⟩ := exec_branchTest_timerUpdate hwritten
    exact ⟨hdue, _, w, State.whenLive_of_live hlive _, hexec, hcalls.trans hdue⟩

/-- Settles O20: the cell written is the one that a later RAISE reads as SR or Cause. -/
theorem wrCp0WritesTheCell : Obligations.WrCp0WritesTheCell := by
  intro s n v hlive
  have hwritten : (s.accept.writeCp0 n v).Live := hlive
  have hread (k : RegNum) : (s.accept.writeCp0 n v).readCp0 k = if k = n then v else s.readCp0 k := by
    simp only [State.readCp0_writeCp0, State.accept_readCp0, eq_comm (a := n)]
  refine ⟨_, State.whenLive_of_live hlive _, rfl, hread,
    fun code bdt => ⟨_, State.whenLive_of_live hwritten _, ?vector, ?cause⟩⟩
  case vector =>
    rintro rfl
    have hsr : (s.accept.writeCp0 Config.cp0Sr v).accept.sr = v := (hread _).trans (if_pos rfl)
    rw [State.takeException_pc, hsr]
    rfl
  case cause =>
    rintro rfl k h8 h10
    have hcause : (s.accept.writeCp0 Config.cp0Cause v).accept.cause = v :=
      (hread _).trans (if_pos rfl)
    rw [State.takeException_cause, hcause]
    exact causeOnEntry_getLsbD_kept bdt v code h8 h10

/-- Settles O13: `readGpr` answers 0 for `r0` and the register's cell for any other. -/
theorem rdGprAnswersTheRegister : Obligations.RdGprAnswersTheRegister :=
  fun s n hlive => State.whenLive_setRdata hlive (s.readGpr n)

/-- Settles O14, by the two cases of a write to a general register. -/
theorem wrGprWritesTheRegister : Obligations.WrGprWritesTheRegister := by
  intro s n v hlive
  have hexec : exec (.wrGpr n v) s = .next (s.accept.writeGpr n v) := State.whenLive_of_live hlive _
  rw [hexec, State.writeGpr_eq]
  rfl

/-- Settles O16: six read ports, each answering its own register. -/
theorem readPortsAnswerTheirRegister : Obligations.ReadPortsAnswerTheirRegister :=
  fun s hlive =>
    ⟨State.whenLive_setRdata hlive s.pc, State.whenLive_setRdata hlive s.hi,
      State.whenLive_setRdata hlive s.lo, State.whenLive_setRdata hlive s.cycle,
      State.whenLive_setRdata hlive s.nextEvent, State.whenLive_setRdata hlive s.nextBase⟩

/-- Settles O17: a live block accepts the command, and its effect is the one field written. -/
theorem writePortsStoreTheValue : Obligations.WritePortsStoreTheValue :=
  fun s v hlive =>
    ⟨State.whenLive_of_live hlive (s.accept.setPc v), State.whenLive_of_live hlive (s.accept.setHi v),
      State.whenLive_of_live hlive (s.accept.setLo v)⟩

/-- Settles O19: the answer is the cell, and nothing in the state is asked but whether the block is live. -/
theorem rdCp0AnswersTheCell : Obligations.RdCp0AnswersTheCell :=
  fun s n hlive => State.whenLive_setRdata hlive (s.readCp0 n)

/-- Settles O21: the sum of words is the sum of naturals modulo 2^32. -/
theorem addCycleAddsModulo : Obligations.AddCycleAddsModulo := by
  intro s n hlive
  refine ⟨_, State.whenLive_of_live hlive (s.accept.setCycle (s.cycle + n)), rfl,
    BitVec.toNat_add s.cycle n, ?_⟩
  rintro rfl
  exact BitVec.add_zero s.cycle

end Sys2Proof.Proofs

/-!
PROOFS of the family `41_exception_dispatch.md`. On a live block RAISE is `State.takeException` from the
accepted state (`exec_raise`) and GTE_SPECIAL is step 2 alone (`exec_gteSpecial`). What each step writes is
said by the `takeException_…` lemmas; what the exception leaves, and how HLE bears on it, is said here.
-/
namespace Sys2Proof.Machine

/-! ### The two commands on a live block (R148) -/

theorem exec_raise {s : State} (h : s.Live) (code : Word) (bdt : Bdt) :
    exec (.raise code bdt) s = .next (s.accept.takeException code bdt) :=
  State.whenLive_of_live h _

theorem exec_gteSpecial {s : State} (h : s.Live) (w : Word) :
    exec (.gteSpecial w) s = .next (s.accept.gteSpecialCase w) :=
  State.whenLive_of_live h _

/-! ### The functions of the steps, in the form in which the rules say them -/

theorem isGteWord_iff (w : Word) : isGteWord w = true ↔ w.extractLsb' 25 7 = Config.gteTop7 :=
  beq_iff_eq

theorem epcOnEntry_of_ne {bdt : Bdt} (h : bdt ≠ 0#2) (pc : Word) : epcOnEntry bdt pc = pc - 4#32 :=
  if_neg h

/-- The vector is a function of SR bit 22 (R146). -/
theorem exceptionVector_of_bev {sr : Word} {b : Bool} (h : sr.getLsbD 22 = b) :
    exceptionVector sr = if b then Config.excVecRom else Config.excVecRam :=
  h ▸ rfl

namespace State

variable (s : State)

/-! ### Step 2 (R142) -/

theorem gteSpecialCase_of_applies {w : Word} (hhle : s.cfg.hle = false)
    (htop : w.extractLsb' 25 7 = Config.gteTop7) (hentry : w.extractLsb' 0 6 ∈ s.tables.gteEntries) :
    s.gteSpecialCase w =
      (s.setGte (Config.gteHandler (gteIndex w) s.gte w)).emit (.gteHandler (gteIndex w) w) :=
  if_pos ⟨hhle, (isGteWord_iff w).mpr htop, hentry⟩

theorem gteSpecialCase_of_skips {w : Word}
    (h : s.cfg.hle = true ∨ w.extractLsb' 25 7 ≠ Config.gteTop7 ∨
      w.extractLsb' 0 6 ∉ s.tables.gteEntries) : s.gteSpecialCase w = s := by
  refine if_neg fun ⟨hhle, hword, hentry⟩ => ?_
  rcases h with hon | htop | hempty
  · exact Bool.false_ne_true (hhle.symm.trans hon)
  · exact htop ((isGteWord_iff w).mp hword)
  · exact hempty hentry

/-- Step 2 moves `gte` and the outputs alone. -/
theorem gteSpecialCase_frame (w : Word) : ∃ g o, s.gteSpecialCase w = { s with gte := g, out := o } := by
  unfold gteSpecialCase
  split
  · exact ⟨_, _, rfl⟩
  · exact ⟨s.gte, s.out, rfl⟩

/-! ### What an exception leaves (R149) -/

variable (code : Word) (bdt : Bdt)

/-- An exception moves `gte`, the CP0 cells, `pc` and the outputs alone. -/
theorem takeException_frame :
    s.takeException code bdt =
      { s with
        gte := (s.takeException code bdt).gte, cp0 := (s.takeException code bdt).cp0
        pc := (s.takeException code bdt).pc, out := (s.takeException code bdt).out } := by
  obtain ⟨g, o, hstep⟩ := (s.emit (.fetch s.pc)).gteSpecialCase_frame (s.fetch s.pc)
  unfold takeException
  rw [hstep]
  rfl

/-- Of the CP0 cells it moves SR, Cause and EPC. -/
theorem takeException_readCp0_of_ne {k : RegNum} (hsr : k ≠ Config.cp0Sr) (hcause : k ≠ Config.cp0Cause)
    (hepc : k ≠ Config.cp0Epc) : (s.takeException code bdt).readCp0 k = s.readCp0 k := by
  rw [takeException_readCp0, if_neg hsr.symm, if_neg hepc.symm, if_neg hcause.symm]

/-! ### High-level emulation (R150) -/

/-- `s` with HLE enabled. -/
def withHle : State := { s with cfg := { s.cfg with hle := true } }

/-- With HLE enabled an exception is the same but for step 2, which it skips. -/
theorem takeException_withHle :
    s.withHle.takeException code bdt =
      { s.takeException code bdt with
        gte := s.gte, cfg := s.withHle.cfg, out := (s.withHle.takeException code bdt).out } := by
  have hskip : (s.withHle.emit (.fetch s.withHle.pc)).gteSpecialCase (s.withHle.fetch s.withHle.pc) =
      s.withHle.emit (.fetch s.withHle.pc) := gteSpecialCase_hle _ rfl
  obtain ⟨g, o, hstep⟩ := (s.emit (.fetch s.pc)).gteSpecialCase_frame (s.fetch s.pc)
  unfold takeException
  rw [hskip, hstep]
  rfl

/-- The fetch is then its one call (log 17). -/
theorem takeException_withHle_events :
    (s.withHle.takeException code bdt).out.events = s.out.events ++ [.fetch s.pc] := by
  rw [takeException_events, gteSpecialCase_hle _ rfl]
  rfl

end State

end Sys2Proof.Machine

namespace Sys2Proof.Proofs

open Sys2Proof.Machine

/-- Settles O22: the lemma about each step, read at the accepted state. -/
theorem raiseIsTheSixSteps : Obligations.RaiseIsTheSixSteps := by
  intro s code bdt hlive
  refine ⟨_, exec_raise hlive code bdt, ?gte, State.takeException_cause .., ?epc,
    State.takeException_pc .., State.takeException_sr ..⟩
  case gte =>
    rw [State.takeException_gte, State.gteSpecialCase_gte]
    simp only [isGteWord_iff]
    rfl
  case epc =>
    rw [State.takeException_epc, ite_not]
    rfl

/-- Settles O23: the three sources of the new cause register, bit by bit. -/
theorem raiseCauseBits : Obligations.RaiseCauseBits := by
  intro s code bdt hlive
  refine ⟨_, exec_raise hlive code bdt, fun k hk => ?_⟩
  rw [State.takeException_cause, causeOnEntry_getLsbD bdt _ code hk, State.accept_cause]
  simp only [Bool.or_assoc, Bool.or_comm, Bool.or_left_comm]

/-- Settles O24, by whether the indicator is 0; the difference of words is one of naturals modulo 2^32. -/
theorem raiseEpcIsTheReturnAddress : Obligations.RaiseEpcIsTheReturnAddress := by
  intro s code bdt hlive
  refine ⟨_, exec_raise hlive code bdt, ?zero, ?delaySlot⟩
  case zero =>
    rintro rfl
    exact State.takeException_epc ..
  case delaySlot =>
    intro hbdt
    rw [State.takeException_epc, epcOnEntry_of_ne hbdt, BitVec.toNat_sub, Nat.add_comm]
    rfl

/-- Settles O25: both vectors are `exceptionVector` of SR, which reads bit 22 alone. -/
theorem raiseVectorIsSelectedByBev : Obligations.RaiseVectorIsSelectedByBev := by
  refine fun s code bdt hlive => ⟨_, exec_raise hlive code bdt, exceptionVector_of_bev,
    exceptionVector_of_bev, fun s' code' bdt' hlive' hbev => ⟨_, exec_raise hlive' code' bdt', ?_⟩⟩
  exact (exceptionVector_of_bev hbev).trans (exceptionVector_of_bev rfl).symm

/-- Settles O26: the new SR is the old one pushed. -/
theorem raisePushesTheStatusStack : Obligations.RaisePushesTheStatusStack := by
  intro s code bdt hlive
  refine ⟨_, exec_raise hlive code bdt, fun k hk => ?_⟩
  rw [State.takeException_sr, srPush_getLsbD _ hk]
  rfl

/-- Settles O27, by the frame of an exception. -/
theorem raiseNeverFailsAndChangesNothingElse : Obligations.RaiseNeverFailsAndChangesNothingElse := by
  intro s code bdt hlive
  refine ⟨_, exec_raise hlive code bdt, State.takeException_status .., State.takeException_prid ..,
    s.accept.takeException_frame code bdt, fun k hsr hcause hepc =>
      s.accept.takeException_readCp0_of_ne code bdt hsr hcause hepc, fun a => ?memory⟩
  case memory => rw [State.readByte, State.takeException_mem, State.accept_mem, State.readByte]

/-- Settles O29: the exception with HLE on is the one with HLE off, without its step 2. -/
theorem hleChangesOnlyTheSpecialCase : Obligations.HleChangesOnlyTheSpecialCase := by
  intro s code bdt hlive _
  have hwithHle : s.withHle.Live := hlive
  exact ⟨_, _, exec_raise hlive code bdt, exec_raise hwithHle code bdt,
    s.accept.takeException_withHle code bdt, s.accept.takeException_withHle_events code bdt⟩

/-- Settles O10: the instruction decoded is GTE_SPECIAL of the word fetched, and an exception leaves in
`gte` what that word's special case leaves. -/
theorem raisePerformsTheWordAtPc : Obligations.RaisePerformsTheWordAtPc := by
  intro s code bdt i hlive hdecode
  obtain ⟨rfl, -⟩ := decodeInsn_ok_iff.mp hdecode
  exact ⟨_, _, exec_raise hlive code bdt, exec_gteSpecial hlive _, s.accept.takeException_gte code bdt⟩

/-- Settles O28, by whether step 2 applies a handler. -/
theorem gteSpecialCaseAppliesTheHandler : Obligations.GteSpecialCaseAppliesTheHandler := by
  intro s w hlive
  refine ⟨fun hhle htop hentry => ?applies, fun hskips => ?skips⟩
  case applies =>
    rw [exec_gteSpecial hlive, s.accept.gteSpecialCase_of_applies hhle htop hentry]
    rfl
  case skips =>
    rw [exec_gteSpecial hlive, s.accept.gteSpecialCase_of_skips hskips]
    rfl

end Sys2Proof.Proofs

/-!
PROOFS of the family `42_event_scheduler.md`. On a live block BRANCH_TEST is `State.branchTest` from the
accepted state (`exec_branchTest`). Its two parts are spoken of apart: what the timer test leaves
(`State.timerTest_frame`), and whether the interrupt test takes an exception, which its fetch shows
(`State.fetch_mem_takeException`).
-/
namespace Sys2Proof.Machine

theorem exec_branchTest {s : State} (h : s.Live) :
    exec .branchTest s = .next s.accept.branchTest :=
  State.whenLive_of_live h _

/-- The default arbiter's three conditions (R174). -/
theorem defaultArbiter_eq (sr : Word) (irq : IrqIn) :
    defaultArbiter sr irq =
      if irq.pending = true ∧ sr.getLsbD 0 = true ∧ sr.getLsbD 10 = true then
        some (Config.irqCode, 0#2)
      else none := by
  simp only [defaultArbiter, srIEc, srIM2, Bool.and_eq_true, and_assoc]

/-- With indicator 0 an entry keeps bits 10:8 of the old cause register and takes the code's. -/
theorem causeOnEntry_zero (old code : Word) :
    causeOnEntry 0#2 old code = (old &&& Config.causeKeepMask) ||| code := by
  simp [causeOnEntry]

/-- The answer of a timer update that writes these values. -/
def rescheduling (event base : Word) (irq : IrqIn) : Answer :=
  { status := 0, flag := false
    acts := [.command (.wrNextEvent event), .command (.wrNextBase base), .irq irq] }

namespace State

variable (s : State)

/-! ### The comparator and the update (R171, R172) -/

/-- Drawing an answer moves the answers left and the draw counter alone. -/
theorem draw_frame : ∃ rest n, s.draw.2 = { s with answers := rest, draws := n } := by
  unfold draw
  split
  · exact ⟨_, s.draws, rfl⟩
  · exact ⟨s.answers, _, rfl⟩

/-- The acts of an update move the scheduler's two registers and the interrupt request alone. -/
theorem timerActs_frame (acts : List Act) :
    ∃ e b q, s.timerActs acts = { s with nextEvent := e, nextBase := b, irqIn := q } := by
  refine foldl_keeps (P := fun t => ∃ e b q, t = { s with nextEvent := e, nextBase := b, irqIn := q })
    ?_ acts s ⟨s.nextEvent, s.nextBase, s.irqIn, rfl⟩
  rintro _ a ⟨e, b, q, rfl⟩
  cases a with
  | command i =>
    cases i with
    | wrNextEvent v => exact ⟨v, b, q, rfl⟩
    | wrNextBase v => exact ⟨e, v, q, rfl⟩
    | _ => exact ⟨e, b, q, rfl⟩
  | irq q' => exact ⟨e, b, q', rfl⟩
  | setByte _ _ | timingFix _ => exact ⟨e, b, q, rfl⟩

/-- The comparator and the update move these, and the answers left, the draw counter and the outputs
(R175). -/
theorem timerTest_frame :
    ∃ e b q rest n o, s.timerTest =
      { s with nextEvent := e, nextBase := b, irqIn := q, answers := rest, draws := n, out := o } := by
  unfold timerTest
  split
  · obtain ⟨rest, n, hdraw⟩ := (s.emit .timerUpdate).draw_frame
    obtain ⟨e, b, q, hacts⟩ :=
      (s.emit .timerUpdate).draw.2.timerActs_frame (s.emit .timerUpdate).draw.1.acts
    refine ⟨e, b, q, rest, n, (s.emit .timerUpdate).out, ?_⟩
    rw [timerUpdate, timerAnswer, hacts, hdraw]
    rfl
  · exact ⟨s.nextEvent, s.nextBase, s.irqIn, s.answers, s.draws, s.out, rfl⟩

/-- The update performs the acts of the answer that is ready. -/
theorem timerUpdate_of_rescheduling {event base : Word} {irq : IrqIn} {rest : List Answer}
    (h : s.answers = rescheduling event base irq :: rest) :
    s.timerUpdate =
      { s.emit .timerUpdate with
        nextEvent := event, nextBase := base, irqIn := irq, answers := rest } := by
  rw [timerUpdate, timerAnswer, draw_of_cons (s.emit .timerUpdate) h]
  rfl

/-! ### The interrupt evaluation (R173, R174) -/

theorem interruptRequest_of_default (h : s.tables.arbiter = .default) :
    s.interruptRequest = defaultArbiter s.sr s.irqIn := by
  rw [interruptRequest, h, interruptEvaluation]

/-- The fetch of an exception is listed, whatever HLE is (log 17). -/
theorem fetch_mem_takeException (code : Word) (bdt : Bdt) :
    Event.fetch s.pc ∈ (s.takeException code bdt).out.events := by
  rw [takeException_events, gteSpecialCase_events]
  simp

/-- With no fetch listed, no interrupt was requested. -/
theorem interruptRequest_of_no_fetch (h : ∀ a, Event.fetch a ∉ s.interruptTest.out.events) :
    s.interruptRequest = none := by
  cases hrequest : s.interruptRequest with
  | none => rfl
  | some request =>
    rw [interruptTest_some s hrequest] at h
    exact absurd ((s.emit .intEval).fetch_mem_takeException _ _) (h _)

/-- With no interrupt requested, BRANCH_TEST is its timer test and the call of the evaluation. -/
theorem branchTest_of_no_request (h : s.timerTest.interruptRequest = none) :
    s.branchTest = s.timerTest.emit .intEval :=
  interruptTest_none s.timerTest h

end State

end Sys2Proof.Machine

namespace Sys2Proof.Proofs

open Sys2Proof.Machine

/-- Settles O32, by whether the evaluation requests an interrupt: the RAISE is performed from a state that
differs from the one evaluated in the outputs alone, and outputs have no effect. -/
theorem branchTestIsTheFixedSequence : Obligations.BranchTestIsTheFixedSequence := by
  intro s hlive
  refine ⟨_, s.accept.timerTest, exec_branchTest hlive, rfl, fun hnone => ?none,
    fun code bdt hsome => ?some⟩
  case none =>
    rw [s.accept.branchTest_of_no_request hnone]
    exact (SameButOut.emit s.accept.timerTest .intEval).eq
  case some =>
    have htested : s.accept.timerTest.Live := by
      simpa only [State.Live, State.timerTest_host, State.accept_host] using hlive
    have hout : SameButOut s.accept.timerTest.accept (s.accept.timerTest.emit .intEval) := ⟨_, rfl⟩
    refine ⟨_, exec_raise htested code bdt, ?_⟩
    rw [State.branchTest, State.interruptTest_some _ hsome]
    exact (hout.takeException code bdt).eq

/-- Settles O33: the comparator in naturals, and the update among the calls of BRANCH_TEST. -/
theorem comparatorIsUnsignedModulo : Obligations.ComparatorIsUnsignedModulo := by
  refine ⟨timerDue_iff, timerDue_zero, fun s hlive => ?_⟩
  obtain ⟨t, hexec, hcalls⟩ := exec_branchTest_timerUpdate hlive
  exact ⟨t, hexec, hcalls.trans (timerDue_iff _ _ _)⟩

/-- Settles O34: with no fetch listed the evaluation requested nothing, and the frame of the timer test is
left. -/
theorem branchTestChangesOnlyTheScheduler : Obligations.BranchTestChangesOnlyTheScheduler := by
  intro s hlive
  refine ⟨_, exec_branchTest hlive, State.branchTest_cycle _, State.branchTest_x _,
    State.branchTest_hi _, State.branchTest_lo _, State.branchTest_mem _, State.branchTest_host _,
    State.branchTest_cfg _, State.branchTest_inputs _, fun hnofetch => ?_⟩
  rw [s.accept.branchTest_of_no_request (State.interruptRequest_of_no_fetch _ hnofetch)]
  obtain ⟨e, b, q, rest, n, o, hframe⟩ := s.accept.timerTest_frame
  rw [hframe]
  rfl

/-- Settles O35: the answer that writes the two registers and the interrupt request. -/
theorem timerUpdateAdmitsEveryDraw : Obligations.TimerUpdateAdmitsEveryDraw := by
  intro s e b q hlive hdue
  have hanswered : State.Live { s with answers := [rescheduling e b q] } := hlive
  have htest :=
    (State.timerTest_due (State.accept { s with answers := [rescheduling e b q] }) hdue).trans
      (State.timerUpdate_of_rescheduling _ rfl)
  refine ⟨_, _, exec_branchTest hanswered, ?_⟩
  simp [State.branchTest, htest]

/-- Settles O36: with no update due the evaluation is the default arbiter's on the state itself, and its
three conditions decide whether the exception is taken. -/
theorem defaultArbiterTakesTheInterrupt : Obligations.DefaultArbiterTakesTheInterrupt := by
  intro s hlive harbiter hnotdue
  have htest : s.accept.timerTest = s.accept := State.timerTest_not_due _ hnotdue
  have hrequest : s.accept.interruptRequest = _ :=
    (State.interruptRequest_of_default s.accept harbiter).trans (defaultArbiter_eq _ _)
  refine ⟨_, exec_branchTest hlive, fun htaken => ?taken, fun hmissing => ?missing⟩
  case taken =>
    rw [State.branchTest, htest, State.interruptTest_some _ (hrequest.trans (if_pos htaken))]
    refine ⟨?cause, State.takeException_epc .., ?enable⟩
    case cause => exact (State.takeException_cause ..).trans (causeOnEntry_zero _ _)
    case enable =>
      rw [State.takeException_sr, srPush_getLsbD _ (by decide)]
      rfl
  case missing =>
    rw [State.branchTest, htest, State.interruptTest_none _ (hrequest.trans (if_neg hmissing))]
    rfl

end Sys2Proof.Proofs

/-!
PROOFS of the family `43_host_control.md`. The status that HOST_INIT returns decides the phase it leaves
(`State.hostInit_returned`); which commands a freed block refuses is said once (`exec_refused_of_freed`,
`exec_refused_of_shutDown`). What JUMP_TEST lists at a non-empty entry is said by
`exec_jumpTest_of_handler`. The loop of BOOT_RUN is its blocks iterated (`State.bootLoop_of_reached`,
`State.bootLoop_of_exhausted`).
-/
namespace Sys2Proof.Machine

/-! ### Between two commands (`00_scope.md` R5, R7) -/

theorem step_of_no_inputs {s : State} (h : s.inputs = []) : step s = .next s := by
  obtain ⟨⟩ := s
  obtain rfl := h
  rfl

/-- A change of the surroundings moves the host's state, the configuration, the interrupt request and
memory alone. -/
theorem State.applyChange_frame (s : State) (c : Change) :
    ∃ h cfg q m, s.applyChange c = { s with host := h, cfg := cfg, irqIn := q, mem := m } := by
  cases c with
  | setByte a b => exact ⟨s.host, s.cfg, s.irqIn, _, rfl⟩
  | irq q => exact ⟨s.host, s.cfg, q, s.mem, rfl⟩
  | cfg cfg => exact ⟨s.host, cfg, s.irqIn, s.mem, rfl⟩
  | backendInitOnce b => exact ⟨_, s.cfg, s.irqIn, s.mem, rfl⟩

/-! ### Which commands a freed block refuses (R193) -/

section Freed

variable {s : State}

theorem State.whenLive_of_freed (h : s.host.phase = .shutDown ∨ s.host.phase = .reinitialised)
    (t : State) : s.whenLive t = .refused .afterShutdown := by
  rcases h with h | h
  · simp only [State.whenLive, h]
  · simp only [State.whenLive, h]

theorem State.whenNotShutDown_of_freed
    (h : s.host.phase = .shutDown ∨ s.host.phase = .reinitialised) (t : State) :
    s.whenNotShutDown t = .refused .afterShutdown := by
  rcases h with h | h
  · simp only [State.whenNotShutDown, h]
  · simp only [State.whenNotShutDown, h]

theorem State.whenNotShutDown_of_not_freed (h : s.host.phase = .live ∨ s.host.phase = .unreset)
    (t : State) : s.whenNotShutDown t = .next t := by
  rcases h with h | h
  · simp only [State.whenNotShutDown, h]
  · simp only [State.whenNotShutDown, h]

theorem State.whenInitialised_of_shutDown (h : s.host.phase = .shutDown) (t : State) :
    s.whenInitialised t = .refused .afterShutdown := by
  simp only [State.whenInitialised, h]

theorem State.whenInitialised_of_reinitialised (h : s.host.phase = .reinitialised) (t : State) :
    s.whenInitialised t = .next t := by
  simp only [State.whenInitialised, h]

/-- From HOST_SHUTDOWN until the block is live again every command is refused but HOST_INIT and, once
HOST_INIT has succeeded, HOST_RESET. -/
theorem exec_refused_of_freed (h : s.host.phase = .shutDown ∨ s.host.phase = .reinitialised)
    {i : Instr} (hinit : i ≠ .hostInit) (hreset : i ≠ .hostReset) : exec i s = .refused .afterShutdown := by
  cases i with
  | hostInit => exact absurd rfl hinit
  | hostReset => exact absurd rfl hreset
  | resetState | hostShutdown => exact State.whenNotShutDown_of_freed h _
  | _ => exact State.whenLive_of_freed h _

theorem exec_refused_of_shutDown (h : s.host.phase = .shutDown) {i : Instr} (hinit : i ≠ .hostInit) :
    exec i s = .refused .afterShutdown := by
  by_cases hreset : i = .hostReset
  · subst hreset
    exact State.whenInitialised_of_shutDown h _
  · exact exec_refused_of_freed (.inl h) hinit hreset

end Freed

namespace State

variable (s : State)

/-! ### HOST_INIT (R190, R192) -/

/-- The answer to `Mem.Init()` is the first one drawn, and the backend's the next. -/
theorem memInit_chooseBackend_draws :
    s.chooseBackend.memInit.1 = s.draw.1 ∧
    (s.chooseBackend.memInit.2.emit .backendInit).draw.1 = s.draw.2.draw.1 := by
  obtain ⟨hanswer, hanswers, hdraws⟩ :=
    draw_congr (s := (s.chooseBackend.emit .memInit).memoryReplaced) (t := s) rfl rfl
  exact ⟨hanswer, (draw_congr (s := s.chooseBackend.memInit.2.emit .backendInit) hanswers hdraws).1⟩

/-- Accepting a command leaves the answers to be drawn. -/
theorem draw_accept : s.accept.draw.1 = s.draw.1 ∧ s.accept.draw.2.draw.1 = s.draw.2.draw.1 := by
  obtain ⟨hanswer, hanswers, hdraws⟩ := draw_congr (s := s.accept) (t := s) rfl rfl
  exact ⟨hanswer, (draw_congr hanswers hdraws).1⟩

theorem memInit_chooseBackend_events :
    s.chooseBackend.memInit.2.out.events = s.out.events ++ [.memInit] := by
  simp [memInit, chooseBackend]

/-- A failed `Mem.Init()` is returned at once. -/
theorem hostInit_of_memInit_failed (h : s.draw.1.status ≠ 0) :
    s.hostInit.out.hostStatus = some s.draw.1.status ∧
      s.hostInit.out.events = s.out.events ++ [.memInit] := by
  rw [← s.memInit_chooseBackend_draws.1] at h ⊢
  rw [hostInit, if_neg h]
  exact ⟨rfl, s.memInit_chooseBackend_events⟩

theorem hostInit_of_memInit_ok (h : s.draw.1.status = 0) :
    s.hostInit = s.chooseBackend.memInit.2.initBackend := by
  rw [← s.memInit_chooseBackend_draws.1] at h
  rw [hostInit, if_pos h]

theorem memInit_chooseBackend_backendInitOnce :
    s.chooseBackend.memInit.2.host.backendInitOnce = s.host.backendInitOnce := by
  simp [memInit, chooseBackend]

/-- With the flag set the backend's status is returned. -/
theorem hostInit_of_backendInit (h : s.draw.1.status = 0) (honce : s.host.backendInitOnce = true) :
    s.hostInit.out.hostStatus = some s.draw.2.draw.1.status ∧
      s.hostInit.out.events = s.out.events ++ [.memInit, .backendInit] := by
  rw [← memInit_chooseBackend_backendInitOnce] at honce
  rw [s.hostInit_of_memInit_ok h, initBackend, if_pos honce, s.memInit_chooseBackend_draws.2]
  exact ⟨rfl, by simp [finishInit, memInit_chooseBackend_events]⟩

/-- With the flag clear the backend is not called. -/
theorem hostInit_of_no_backendInit (h : s.draw.1.status = 0) (honce : s.host.backendInitOnce = false) :
    s.hostInit.out.hostStatus = some 0 ∧ s.hostInit.out.events = s.out.events ++ [.memInit] := by
  rw [← memInit_chooseBackend_backendInitOnce] at honce
  rw [s.hostInit_of_memInit_ok h, initBackend, if_neg (by simp [honce])]
  exact ⟨rfl, s.memInit_chooseBackend_events⟩

theorem memInit_frame :
    ∃ rest n, s.memInit.2 =
      { s with
        mem := [], memEpoch := s.memEpoch + 1, answers := rest, draws := n
        out := (s.emit .memInit).out } :=
  (s.emit .memInit).memoryReplaced.draw_frame

theorem initBackend_frame :
    ∃ h rest n o, s.initBackend = { s with host := h, answers := rest, draws := n, out := o } := by
  obtain ⟨rest, n, hdraw⟩ := (s.emit .backendInit).draw_frame
  unfold initBackend
  split
  · rw [hdraw]
    exact ⟨_, rest, n, _, rfl⟩
  · exact ⟨_, s.answers, s.draws, _, rfl⟩

/-- HOST_INIT moves the host's state, memory, the answers left, the draw counter and the outputs
alone. -/
theorem hostInit_frame :
    ∃ h m e rest n o, s.hostInit =
      { s with host := h, mem := m, memEpoch := e, answers := rest, draws := n, out := o } := by
  obtain ⟨rest, n, hmem⟩ := s.chooseBackend.memInit_frame
  unfold hostInit
  split
  · obtain ⟨h, rest', n', o, hbackend⟩ := s.chooseBackend.memInit.2.initBackend_frame
    rw [hbackend, hmem]
    exact ⟨h, _, _, rest', n', o, rfl⟩
  · rw [hmem]
    exact ⟨_, _, _, rest, n, _, rfl⟩

/-- HOST_INIT returns a status that decides the phase, with the backend chosen. -/
theorem hostInit_returned :
    ∃ v, s.hostInit.out.hostStatus = some v ∧ s.hostInit.host =
      { s.host with
        backend := some (selectBackend s.tables.offers s.cfg.backend)
        phase := phaseAfterInit s.host.phase v } := by
  obtain ⟨u, v, hinit, hhost, -⟩ := s.hostInit_cases
  refine ⟨v, ?_, ?_⟩
  · rw [hinit, finishInit_hostStatus]
  · rw [hinit, finishInit_host, hhost]
    rfl

theorem hostInit_backend :
    s.hostInit.host.backend = some (selectBackend s.tables.offers s.cfg.backend) := by
  obtain ⟨v, -, hhost⟩ := s.hostInit_returned
  rw [hhost]

theorem hostInit_phase_of_ok (h : s.host.phase = .shutDown) (hok : s.hostInit.out.hostStatus = some 0) :
    s.hostInit.host.phase = .reinitialised := by
  obtain ⟨v, hstatus, hhost⟩ := s.hostInit_returned
  obtain rfl : v = 0 := Option.some.inj (hstatus.symm.trans hok)
  simp [hhost, h, phaseAfterInit]

theorem hostInit_phase_of_failed (h : s.host.phase = .shutDown)
    (hfailed : s.hostInit.out.hostStatus ≠ some 0) : s.hostInit.host.phase = .shutDown := by
  obtain ⟨v, hstatus, hhost⟩ := s.hostInit_returned
  have hv : v ≠ 0 := by
    rintro rfl
    exact hfailed hstatus
  simp [hhost, h, phaseAfterInit, hv]

end State

/-- HOST_INIT after HOST_SHUTDOWN: a status of 0, and no other, lets HOST_RESET in. -/
theorem exec_hostInit_of_shutDown {s : State} (h : s.host.phase = .shutDown) :
    ∃ u, exec .hostInit s = .next u ∧
      (u.out.hostStatus = some 0 → u.host.phase = .reinitialised) ∧
      (u.out.hostStatus ≠ some 0 → u.host.phase = .shutDown) :=
  ⟨_, rfl, s.accept.hostInit_phase_of_ok h, s.accept.hostInit_phase_of_failed h⟩

/-- The Interpreter is always offered (R192). -/
theorem selectBackend_of_offered {offers : List BackendKind} {k : BackendKind}
    (h : k = .interpreter ∨ k ∈ offers) : selectBackend offers k = k := by
  by_cases hk : k ∈ offers
  · exact if_pos hk
  · exact (if_neg hk).trans (h.resolve_right hk).symm

/-! ### JUMP_TEST (R194, R196) -/

theorem exec_jumpTest {s : State} (h : s.Live) : exec .jumpTest s = .next s.accept.jumpTest :=
  State.whenLive_of_live h _

/-- `Quiet[t]` has two members, and they differ. -/
theorem isQuiet_iff (q : QuietCalls) (t : Gate) (n : Byte) :
    isQuiet q t n = true ↔ n = (quietOf q t).low ∨ n = (quietOf q t).high := by
  simp [isQuiet]

namespace State

variable (s : State)

theorem interceptedCall_of_handler {g : Gate} (hhle : s.cfg.hle = false)
    (hintercept : s.cfg.fwIntercept = true) (hgate : gateOf s.pc = some g)
    (hentry : (g, s.callNumber) ∈ s.tables.fwEntries) :
    s.interceptedCall = some (g, s.callNumber) := by
  simp [interceptedCall, hhle, hintercept, hgate, hentry]

theorem interceptedCall_eq_none
    (h : s.cfg.hle = true ∨ s.cfg.fwIntercept = false ∨ gateOf s.pc = none ∨
      ∃ g, gateOf s.pc = some g ∧ (g, s.callNumber) ∉ s.tables.fwEntries) :
    s.interceptedCall = none := by
  rcases h with hhle | hoff | hgate | ⟨g, hgate, hempty⟩
  · simp [interceptedCall, hhle]
  · simp [interceptedCall, hoff]
  · simp [interceptedCall, hgate]
  · simp [interceptedCall, hgate, hempty]

theorem jumpTest_of_none (h : s.interceptedCall = none) : s.jumpTest = s := by
  simp only [jumpTest, h]

theorem jumpTest_of_some {t : Gate} {n : Byte} (h : s.interceptedCall = some (t, n)) :
    s.jumpTest = (s.logCall t n).callHandler t n := by
  simp only [jumpTest, h]

theorem logCall_events (t : Gate) (n : Byte) :
    (s.logCall t n).out.events = s.out.events ++
      if s.cfg.fwLog = true ∧ isQuiet s.tables.quiet t n = false then [.log t n] else [] := by
  unfold logCall
  split
  · rfl
  · exact (List.append_nil _).symm

/-- The handler's own call comes first; the calls after it are those of its block commands. -/
theorem callHandler_events (t : Gate) (n : Byte) :
    ∃ es, (s.callHandler t n).out.events = s.out.events ++ .fwHandler t n :: es ∧
      ∀ e ∈ es, e.ofBlock = true := by
  obtain ⟨es, hevents, hblock⟩ :=
    ((Carries.draw (s.emit (.fwHandler t n))).trans
      (Carries.foldl Carries.handlerAct (s.emit (.fwHandler t n)).draw.1.acts _)).events
  refine ⟨es, ?_, hblock⟩
  rw [callHandler, handlerActs, hevents]
  exact List.append_assoc s.out.events [.fwHandler t n] es

/-- Calling a handler performs the acts of the answer drawn, whatever the outputs hold before the call. -/
theorem callHandler_sameButOut {t u : State} (h : SameButOut t u) (g : Gate) (n : Byte) :
    SameButOut (t.draw.2.handlerActs t.draw.1.acts) (u.callHandler g n) := by
  obtain ⟨hanswer, hrest⟩ := (h.trans (SameButOut.emit u (.fwHandler g n))).draw
  rw [callHandler, ← hanswer]
  exact hrest.handlerActs _

theorem logCall_sameButOut (t : Gate) (n : Byte) : SameButOut s (s.logCall t n) := by
  unfold logCall
  split
  · exact .emit s _
  · exact .refl s

theorem accept_sameButOut : SameButOut s s.accept := ⟨_, rfl⟩

end State

/-- JUMP_TEST at a non-empty entry lists the log event if one is due, the handler's call and calls of
block commands; but for the outputs it leaves what the handler's acts leave. -/
theorem exec_jumpTest_of_handler {s : State} {g : Gate} (hlive : s.Live) (hhle : s.cfg.hle = false)
    (hintercept : s.cfg.fwIntercept = true) (hgate : gateOf s.pc = some g)
    (hentry : (g, s.callNumber) ∈ s.tables.fwEntries) :
    ∃ t es, exec .jumpTest s = .next t ∧
      t.out.events =
        (if s.cfg.fwLog = true ∧ isQuiet s.tables.quiet g s.callNumber = false then
          [.log g s.callNumber] else []) ++ .fwHandler g s.callNumber :: es ∧
      (∀ e ∈ es, e.ofBlock = true) ∧
      t = { s.draw.2.handlerActs s.draw.1.acts with out := t.out } := by
  have hcall : s.accept.interceptedCall = some (g, s.callNumber) :=
    s.accept.interceptedCall_of_handler hhle hintercept hgate hentry
  have hlog := s.accept.logCall_events g s.callNumber
  have hsame := s.accept_sameButOut.trans (s.accept.logCall_sameButOut g s.callNumber)
  obtain ⟨es, hevents, hblock⟩ := (s.accept.logCall g s.callNumber).callHandler_events g s.callNumber
  refine ⟨_, es, (exec_jumpTest hlive).trans (congrArg _ (s.accept.jumpTest_of_some hcall)), ?_, hblock,
    (State.callHandler_sameButOut hsame g s.callNumber).eq⟩
  rw [hevents, hlog]
  rfl

/-! ### BOOT_RUN (R197 to R199) -/

namespace State

variable (s : State)

/-- A property that a block and the write of the boot record keep is kept by the loop. -/
theorem bootLoop_keeps {P : State → Prop} (hblock : ∀ s, P s → P s.bootBlock)
    (hstate : ∀ s b, P s → P (s.setBootState b)) (fuel : Nat) {s : State} (h : P s) :
    P (bootLoop fuel s) := by
  induction fuel generalizing s with
  | zero => exact hstate s _ h
  | succ fuel ih =>
    rw [bootLoop]
    split
    · exact hstate _ _ (hblock s h)
    · exact ih (hblock s h)

/-- The block that is the first to reach the kernel segment is the last (R198). -/
theorem bootLoop_of_reached {k fuel : Nat} {s : State} (hk : 1 ≤ k) (hfuel : k ≤ fuel)
    (hbefore : ∀ j, 1 ≤ j → j < k → inKernelSegment (bootBlock^[j] s).pc = false)
    (hreached : inKernelSegment (bootBlock^[k] s).pc = true) :
    bootLoop fuel s = (bootBlock^[k] s).setBootState .reachedKernel := by
  induction k, hk using Nat.le_induction generalizing fuel s with
  | base =>
    obtain ⟨fuel, rfl⟩ := Nat.exists_eq_add_of_le' hfuel
    rw [bootLoop]
    exact if_pos hreached
  | succ k hk ih =>
    obtain ⟨fuel, rfl⟩ := Nat.exists_eq_add_of_le' (Nat.le_of_add_left_le hfuel)
    have hfirst : ¬inKernelSegment s.bootBlock.pc = true := by
      simpa using hbefore 1 le_rfl (by omega)
    rw [bootLoop, if_neg hfirst]
    exact ih (by omega) (fun j hj hlt => hbefore (j + 1) (by omega) (by omega)) hreached

/-- A boot none of whose blocks reaches the kernel segment uses every pass (R198). -/
theorem bootLoop_of_exhausted {fuel : Nat} {s : State}
    (h : ∀ j, 1 ≤ j → j ≤ fuel → inKernelSegment (bootBlock^[j] s).pc = false) :
    bootLoop fuel s = (bootBlock^[fuel] s).setBootState .exhausted := by
  induction fuel generalizing s with
  | zero => rfl
  | succ fuel ih =>
    have hfirst : ¬inKernelSegment s.bootBlock.pc = true := by
      simpa using h 1 le_rfl (by omega)
    rw [bootLoop, if_neg hfirst]
    exact ih fun j hj hle => h (j + 1) (by omega) (by omega)

theorem bootBlocks_bootCount (k : Nat) :
    (bootBlock^[k] s).host.bootCount = s.host.bootCount + k := by
  induction k generalizing s with
  | zero => rfl
  | succ k ih =>
    rw [Function.iterate_succ_apply, ih, bootBlock_bootCount]
    omega

/-- The diagnostic changes no state (R199). -/
theorem bootDiagnostic_sameButOut : SameButOut s s.bootDiagnostic := by
  unfold bootDiagnostic
  split
  · exact .emit s _
  · exact .refl s

@[simp] theorem bootDiagnostic_host : s.bootDiagnostic.host = s.host := by
  unfold bootDiagnostic; split <;> rfl
@[simp] theorem bootDiagnostic_pc : s.bootDiagnostic.pc = s.pc := by
  unfold bootDiagnostic; split <;> rfl

/-- No boot diagnostic has been emitted. -/
def NoDiagnostic (s : State) : Prop := ∀ n a, Event.nonStandardFirmware n a ∉ s.out.events

/-- A backend block emits no boot diagnostic: its calls are those of the commands it may issue. -/
theorem NoDiagnostic.bootBlock {s : State} (h : s.NoDiagnostic) : s.bootBlock.NoDiagnostic := by
  obtain ⟨es, hevents, hbackend⟩ := (executeBlock_carries s .boot).events
  intro n a hmem
  replace hmem : Event.nonStandardFirmware n a ∈ (s.executeBlock .boot).out.events := hmem
  rw [hevents, emit_out] at hmem
  rcases List.mem_append.mp hmem with hmem | hmem
  · rcases List.mem_append.mp hmem with hmem | hmem
    · exact h n a hmem
    · cases List.mem_singleton.mp hmem
  · cases hbackend _ hmem

theorem NoDiagnostic.bootLoop {s : State} (h : s.NoDiagnostic) (fuel : Nat) :
    (bootLoop fuel s).NoDiagnostic :=
  bootLoop_keeps (P := NoDiagnostic) (fun _ => NoDiagnostic.bootBlock) (fun _ _ => id) fuel h

/-- When the diagnostic is emitted, and what it carries (R199). -/
theorem NoDiagnostic.mem_bootDiagnostic_iff {s : State} (h : s.NoDiagnostic) (n : Nat) (a : Word) :
    Event.nonStandardFirmware n a ∈ s.bootDiagnostic.out.events ↔
      (s.host.bootState = .exhausted ∨ s.pc ≠ Config.kernelEntry) ∧ n = s.host.bootCount ∧ a = s.pc := by
  unfold State.bootDiagnostic
  split
  · next hoff => simp [hoff, h n a]
  · next hentry => simp [hentry, h n a]

end State

theorem exec_bootRun {s : State} (h : s.Live) :
    exec .bootRun s = .next (State.bootLoop Config.bootCap s.accept.bootStart).bootDiagnostic :=
  State.whenLive_of_live h _

/-- What BOOT_RUN leaves when its loop ends in `b` after `k` blocks. -/
theorem exec_bootRun_of_ended {s : State} (hlive : s.Live) {k : Nat} {b : BootState}
    (h : State.bootLoop Config.bootCap s.accept.bootStart =
      (State.bootBlock^[k] s.accept.bootStart).setBootState b) :
    ∃ t, exec .bootRun s = .next t ∧ t.host.bootState = b ∧ t.host.bootCount = k ∧
      t = { State.bootBlock^[k] s.accept.bootStart with host := t.host, out := t.out } := by
  have hexec := exec_bootRun hlive
  rw [h] at hexec
  refine ⟨_, hexec, ?_, ?_, ?_⟩
  · rw [State.bootDiagnostic_host]
    rfl
  · rw [State.bootDiagnostic_host]
    exact (s.accept.bootStart.bootBlocks_bootCount k).trans (Nat.zero_add k)
  · obtain ⟨o, hout⟩ :=
      ((State.bootBlock^[k] s.accept.bootStart).setBootState b).bootDiagnostic_sameButOut
    rw [hout]
    rfl

/-! ### HOST_RESET leaves the block live (R193, R264) -/

namespace State

theorem Live.bootRun {s : State} (h : s.Live) : s.bootRun.Live := by
  have hblock (u : State) (hu : u.Live) : u.bootBlock.Live :=
    (executeBlock_carries u .boot).live hu
  have hloop : (bootLoop Config.bootCap s.bootStart).Live :=
    bootLoop_keeps (P := Live) hblock (fun _ _ => id) Config.bootCap h
  rwa [Live, State.bootRun, bootDiagnostic_host]

theorem Live.bootOrBypass {s : State} (h : s.Live) : s.bootOrBypass.2.Live := by
  unfold State.bootOrBypass
  split
  · exact h
  · split
    · exact ((Carries.draw (p := Event.ofBlock) (s.bootRun.emit .tryIntroBypass)).trans
        (Carries.foldl Carries.outsideAct _ _)).live h.bootRun
    · exact h.bootRun

theorem Live.installBootState {s : State} (h : s.Live) (bypassed : Bool) :
    (s.installBootState bypassed).Live := by
  unfold State.installBootState
  split
  · exact ((Carries.draw (s.emit .setupHleBootState)).trans (Carries.foldl Carries.setupAct _ _)).live h
  · exact h

theorem resetSequence_live (s : State) : s.resetSequence.Live :=
  s.resetSequence_carries.live (by simp [Live])

theorem hostReset_live (s : State) : s.hostReset.Live :=
  (Live.bootOrBypass (s := s.resetSequence.saveTimingFix) s.resetSequence_live).installBootState _

end State

end Sys2Proof.Machine

namespace Sys2Proof.Proofs

open Sys2Proof.Machine

/-- Settles O43: the statuses returned, by the answers drawn; of the state HOST_INIT moves only what
`State.hostInit_frame` names. -/
theorem hostInitReturnsTheStatus : Obligations.HostInitReturnsTheStatus := by
  intro s
  have hbackend : s.accept.hostInit.host.backend ≠ none := by
    rw [State.hostInit_backend]
    exact Option.some_ne_none _
  obtain ⟨hanswer, hnext⟩ := s.draw_accept
  rw [← hanswer, ← hnext]
  refine ⟨_, rfl, ?failed, ?backend, ?memory, hbackend, ?_⟩
  case failed => exact s.accept.hostInit_of_memInit_failed
  case backend => exact s.accept.hostInit_of_backendInit
  case memory => exact s.accept.hostInit_of_no_backendInit
  obtain ⟨h, m, e, rest, n, o, hframe⟩ := s.accept.hostInit_frame
  rw [hframe]
  exact ⟨rfl, rfl, rfl, rfl, rfl, rfl, rfl, rfl, rfl, rfl, rfl, rfl⟩

/-- Settles O44: HOST_INIT chooses its backend before any call, in every state. -/
theorem hostInitSelectsTheBackend : Obligations.HostInitSelectsTheBackend := by
  intro s
  have hbackend := s.accept.hostInit_backend
  refine ⟨_, rfl, fun hoffered => ?_, fun _ hunoffered => ?_⟩
  · exact hbackend.trans (congrArg some (selectBackend_of_offered hoffered))
  · exact hbackend.trans (congrArg some (if_neg hunoffered))

/-- Settles O45: HOST_SHUTDOWN leaves the phase `shutDown`, which HOST_INIT leaves by a status of 0 alone,
and HOST_RESET then makes the block live. -/
theorem hostShutdownFreesTheBlock : Obligations.HostShutdownFreesTheBlock := by
  refine ⟨fun s hfreed => State.whenNotShutDown_of_freed hfreed _, fun s hheld => ?_⟩
  have hphase : s.accept.hostShutdown.host.phase = .shutDown := by rw [State.hostShutdown_host]
  obtain ⟨u, hinit, hok, hfailed⟩ := exec_hostInit_of_shutDown hphase
  refine ⟨_, State.whenNotShutDown_of_not_freed hheld _, State.hostShutdown_events _,
    by rw [State.hostShutdown_host], State.hostShutdown_cfg _, State.hostShutdown_tables _,
    State.hostShutdown_inputs _, fun i => exec_refused_of_shutDown hphase, u, hinit,
    fun hstatus => ?ok, fun hstatus i => exec_refused_of_shutDown (hfailed hstatus)⟩
  case ok =>
    have hreinit := hok hstatus
    exact ⟨⟨_, State.whenInitialised_of_reinitialised hreinit _, State.hostReset_live _⟩,
      fun i => exec_refused_of_freed (.inr hreinit)⟩

/-- Settles O48: in each of the four cases JUMP_TEST finds no handler to call. -/
theorem jumpTestIsInactiveWithoutAHandler : Obligations.JumpTestIsInactiveWithoutAHandler := by
  intro s hlive hinactive
  rw [exec_jumpTest hlive, s.accept.jumpTest_of_none (s.accept.interceptedCall_eq_none hinactive)]
  rfl

/-- Settles O49: a handler's own commands call no handler and make no log event, so of both kinds the event
list holds what stands at its head. -/
theorem jumpTestCallsTheHandlerOnce : Obligations.JumpTestCallsTheHandlerOnce := by
  intro s g hlive hhle hintercept hgate hentry
  obtain ⟨t, es, hexec, hevents, hblock, hstate⟩ :=
    exec_jumpTest_of_handler hlive hhle hintercept hgate hentry
  have hhandler : Event.fwHandler g s.callNumber ∉ es := fun hmem => nomatch hblock _ hmem
  have hlog : Event.log g s.callNumber ∉ es := fun hmem => nomatch hblock _ hmem
  refine ⟨t, hexec, ?once, ?quiet, ?logged, ?unlogged, ?log, hstate, ?wrPc⟩
  case once =>
    rw [hevents, List.count_append, List.count_cons_self, List.count_eq_zero.mpr hhandler]
    split <;> simp
  case quiet =>
    exact ⟨_, _, BitVec.ne_of_lt (quietOf s.tables.quiet g).distinct, isQuiet_iff s.tables.quiet g⟩
  case logged =>
    intro hdue
    rw [hevents, if_pos hdue]
    exact List.prefix_append _ es
  case unlogged =>
    intro hnotdue
    rw [hevents, if_neg hnotdue]
    exact List.prefix_append _ es
  case log =>
    rw [hevents]
    split
    · next hdue => simp [hdue]
    · next hnotdue => simp [hnotdue, hlog]
  case wrPc =>
    intro v hacts
    rw [hacts] at hstate
    exact hstate

/-- Settles O51: the loop ends after the first block that reaches the kernel segment, or by its fuel. -/
theorem bootStopsAtTheFirstKernelBlock : Obligations.BootStopsAtTheFirstKernelBlock := by
  refine fun s hlive => ⟨fun k hk hcap hbefore hreached => ?_, fun hnone => ?_⟩
  · exact exec_bootRun_of_ended hlive (State.bootLoop_of_reached hk hcap hbefore hreached)
  · exact exec_bootRun_of_ended hlive (State.bootLoop_of_exhausted hnone)

/-- Settles O52: the loop emits no diagnostic, so the one that may follow it is the only one. -/
theorem bootDiagnosticIsEmittedOffTheKernelEntry :
    Obligations.BootDiagnosticIsEmittedOffTheKernelEntry := by
  intro s hlive
  have hstart : s.accept.bootStart.NoDiagnostic := fun _ _ => List.not_mem_nil
  refine ⟨_, exec_bootRun hlive, fun n a => ?_, (State.bootDiagnostic_sameButOut _).eq⟩
  rw [State.bootDiagnostic_host, State.bootDiagnostic_pc]
  exact (hstart.bootLoop Config.bootCap).mem_bootDiagnostic_iff n a

/-- Settles O9: the step performs the change, and that touches none of the block's registers. -/
theorem stepBetweenCommandsTouchesNoRegister : Obligations.StepBetweenCommandsTouchesNoRegister := by
  refine ⟨fun s => step_of_no_inputs, fun s c rest hinputs => ⟨_, step_change hinputs, ?_⟩⟩
  have hcfg (c' : Cfg) (h : c = .cfg c') :
      (State.applyChange { s with inputs := rest } c).cfg = c' := by rw [h]; rfl
  have hirq (q : IrqIn) (h : c = .irq q) :
      (State.applyChange { s with inputs := rest } c).irqIn = q := by rw [h]; rfl
  have honce (b : Bool) (h : c = .backendInitOnce b) :
      (State.applyChange { s with inputs := rest } c).host.backendInitOnce = b := by rw [h]; rfl
  obtain ⟨h, cfg, q, m, hframe⟩ := State.applyChange_frame { s with inputs := rest } c
  rw [hframe] at hcfg hirq honce ⊢
  exact ⟨rfl, rfl, rfl, rfl, rfl, rfl, rfl, rfl, rfl, rfl, rfl, hcfg, hirq, honce⟩

end Sys2Proof.Proofs

/-!
PROOFS of the family `60_exceptions.md`. RAISE on a live block completes, leaves it live and pushes SR
(`exec_raise_pushes`), so a chain of RAISEs is a chain of pushes of the status stack; what two and three
pushes leave is said of `srPush` itself.
-/
namespace Sys2Proof.Machine

/-! ### Pushes of the status stack (R147), context by context -/

/-- A push moves whatever stands in the two newer levels of the stack up by one level. -/
theorem srPush_extractLsb'_level (sr : Word) {start len : Nat} (h : start + len ≤ 4) :
    (srPush sr).extractLsb' (start + 2) len = sr.extractLsb' start len := by
  refine BitVec.eq_of_getLsbD_eq fun k hk => ?_
  rw [BitVec.getLsbD_extractLsb', BitVec.getLsbD_extractLsb', srPush_getLsbD sr (by omega),
    if_neg (by omega), if_pos (by omega), show start + 2 + k - 2 = start + k by omega]

/-- Two pushes leave the two newer levels clear: kernel mode, interrupts disabled. -/
theorem srPush_srPush_extractLsb'_newer (sr : Word) :
    (srPush (srPush sr)).extractLsb' 0 4 = 0#4 := by
  refine BitVec.eq_of_getLsbD_eq fun k hk => ?_
  rw [BitVec.getLsbD_extractLsb', srPush_getLsbD _ (by omega), srPush_getLsbD _ (by omega),
    BitVec.getLsbD_zero]
  by_cases hnewest : k < 2
  · simp [hnewest]
  · simp [show k < 6 by omega, show k - 2 < 2 by omega]

/-- Three pushes leave all three levels clear, and the bits above the stack as they were. -/
theorem srPush_srPush_srPush (sr : Word) :
    srPush (srPush (srPush sr)) = sr.extractLsb' 6 26 ++ 0#6 := by
  refine BitVec.eq_of_getLsbD_eq fun k hk => ?_
  rw [BitVec.getLsbD_append, BitVec.getLsbD_extractLsb', BitVec.getLsbD_zero, srPush_getLsbD _ hk]
  by_cases hstack : k < 6
  · by_cases hnewest : k < 2
    · simp [hnewest, hstack]
    · have hnewer := congrArg (·.getLsbD (k - 2)) (srPush_srPush_extractLsb'_newer sr)
      simpa [hnewest, hstack, show k - 2 < 4 by omega] using hnewer
  · rw [srPush_getLsbD _ hk, srPush_getLsbD _ hk]
    simp [hstack, show ¬ k < 2 by omega, show k - 6 < 26 by omega, show 6 + (k - 6) = k by omega]

/-! ### RAISE after RAISE (R229) -/

/-- What a chain of RAISEs needs of each: it completes, the next one is accepted, and SR is pushed. -/
theorem exec_raise_pushes {s : State} (h : s.Live) (code : Word) (bdt : Bdt) :
    ∃ t, exec (.raise code bdt) s = .next t ∧ t.Live ∧ t.sr = srPush s.sr :=
  ⟨_, exec_raise h code bdt, (congrArg HostState.phase (s.accept.takeException_host code bdt)).trans h,
    s.accept.takeException_sr code bdt⟩

/-- Three RAISEs from a live block complete and push SR three times. -/
theorem exec_raise_thrice {s : State} (h : s.Live) (c1 c2 c3 : Word) (d1 d2 d3 : Bdt) :
    ∃ t u v, exec (.raise c1 d1) s = .next t ∧ exec (.raise c2 d2) t = .next u ∧
      exec (.raise c3 d3) u = .next v ∧ v.sr = s.sr.extractLsb' 6 26 ++ 0#6 := by
  obtain ⟨t, hexec1, hlive1, hsr1⟩ := exec_raise_pushes h c1 d1
  obtain ⟨u, hexec2, hlive2, hsr2⟩ := exec_raise_pushes hlive1 c2 d2
  obtain ⟨v, hexec3, -, hsr3⟩ := exec_raise_pushes hlive2 c3 d3
  exact ⟨t, u, v, hexec1, hexec2, hexec3, by rw [hsr3, hsr2, hsr1, srPush_srPush_srPush]⟩

end Sys2Proof.Machine

namespace Sys2Proof.Proofs

open Sys2Proof.Machine

/-- Settles O30: each RAISE moves the newer two levels of the stack up by one. -/
theorem secondEntryMovesTheContext : Obligations.SecondEntryMovesTheContext := by
  intro s c1 c2 d1 d2 hlive
  obtain ⟨t, hexec1, hlive1, hsr1⟩ := exec_raise_pushes hlive c1 d1
  obtain ⟨u, hexec2, -, hsr2⟩ := exec_raise_pushes hlive1 c2 d2
  have hinterrupted : t.sr.extractLsb' 2 2 = s.sr.extractLsb' 0 2 :=
    hsr1 ▸ srPush_extractLsb'_level s.sr (by decide : 0 + 2 ≤ 4)
  have hbefore : t.sr.extractLsb' 4 2 = s.sr.extractLsb' 2 2 :=
    hsr1 ▸ srPush_extractLsb'_level s.sr (by decide : 2 + 2 ≤ 4)
  have hmoved : u.sr.extractLsb' 4 2 = t.sr.extractLsb' 2 2 :=
    hsr2 ▸ srPush_extractLsb'_level t.sr (by decide : 2 + 2 ≤ 4)
  refine ⟨t, u, hexec1, hexec2, hinterrupted, hbefore, hmoved.trans hinterrupted, ?_⟩
  rw [hsr2, hsr1, srPush_srPush_extractLsb'_newer]

/-- Settles O31: what three RAISEs leave in SR is a function of its bits 31:6. -/
theorem thirdEntryLosesTheContext : Obligations.ThirdEntryLosesTheContext := by
  intro s s' c1 c2 c3 d1 d2 d3 hlive hlive' hupper
  obtain ⟨t, u, v, hexec1, hexec2, hexec3, hsr⟩ := exec_raise_thrice hlive c1 c2 c3 d1 d2 d3
  obtain ⟨t', u', v', hexec1', hexec2', hexec3', hsr'⟩ := exec_raise_thrice hlive' c1 c2 c3 d1 d2 d3
  exact ⟨t, u, v, t', u', v', hexec1, hexec2, hexec3, hexec1', hexec2', hexec3', by
    rw [hsr, hsr', hupper]⟩

end Sys2Proof.Proofs

/-!
PROOFS of the family `70_reset_and_hazards.md`. What RESET_STATE leaves is said cell by cell
(`State.resetBlock_readCp0`). HOST_RESET starts from the state after its first five calls
(`State.resetStart`); what it carries from there on is said once (`BootCarries`), and each of its paths is
an equation (`State.hostReset_of_hle`, `State.hostReset_of_boot`, `State.hostReset_of_bypass`).
-/
namespace Sys2Proof.Machine

/-! ### Which commands are accepted before the first RESET_STATE (R264) -/

section Accepted

variable {s : State}

theorem State.whenInitialised_of_ne_shutDown (h : s.host.phase ≠ .shutDown) (t : State) :
    s.whenInitialised t = .next t := by
  cases hphase : s.host.phase with
  | shutDown => exact absurd hphase h
  | _ => simp only [State.whenInitialised, hphase]

theorem exec_resetState (h : s.host.phase = .live ∨ s.host.phase = .unreset) :
    exec .resetState s = .next s.accept.resetBlock :=
  State.whenNotShutDown_of_not_freed h _

theorem exec_hostReset (h : s.host.phase ≠ .shutDown) : exec .hostReset s = .next s.accept.hostReset :=
  State.whenInitialised_of_ne_shutDown h _

/-- Every block command but RESET_STATE needs a live block. -/
theorem exec_refused_of_unreset (h : s.host.phase = .unreset) {i : Instr}
    (hblock : isBlockCommand i = true) (hreset : i ≠ .resetState) :
    exec i s = .refused .beforeFirstReset := by
  have hrefused (t : State) : s.whenLive t = .refused .beforeFirstReset := by
    simp only [State.whenLive, h]
  cases i with
  | resetState => exact absurd rfl hreset
  | hostInit | hostReset | hostShutdown | jumpTest | bootRun | gteSpecial _ => cases hblock
  | _ => exact hrefused _

end Accepted

/-! ### The reset values (R260, R261) -/

/-- The bits of SR that RESET_STATE sets. -/
theorem srAfterReset_getLsbD_iff : ∀ (hle : Bool) (k : Nat), k < 32 →
    ((srAfterReset hle).getLsbD k = true ↔ k = Config.srCu0Bit ∨ k = Config.srTsBit ∨
      (hle = false ∧ k = Config.srBevBit) ∨ (hle = true ∧ k = Config.srCu2Bit)) := by decide

/-- Kernel mode, interrupts disabled, at each level of the stack. -/
theorem srAfterReset_extractLsb'_stack : ∀ hle : Bool, (srAfterReset hle).extractLsb' 0 6 = 0#6 := by
  decide

namespace State

/-- The CP0 cells after RESET_STATE: SR and PRid have their reset values, the others are zeroed. -/
theorem resetBlock_readCp0 (s : State) (k : RegNum) :
    s.resetBlock.readCp0 k =
      if Config.cp0Prid = k then Config.pridReset
      else if Config.cp0Sr = k then srAfterReset s.cfg.hle else 0#32 := by
  simp only [resetBlock, readCp0_writeCp0]
  simp [readCp0]

theorem resetBlock_readGpr (s : State) (n : RegNum) : s.resetBlock.readGpr n = 0#32 := by
  simp [readGpr]

/-- With HLE off RESET_STATE leaves the block as `State.reset` has it (R260). -/
theorem resetBlock_eq_reset {s : State} (h : s.cfg.hle = false) :
    s.resetBlock = { State.reset with
      nextEvent := s.nextEvent, nextBase := s.nextBase, host := { s.host with phase := .live },
      cfg := s.cfg, irqIn := s.irqIn, mem := s.mem, memEpoch := s.memEpoch, tables := s.tables,
      answers := s.answers, draws := s.draws, inputs := s.inputs, out := s.out } := by
  have hsr : srAfterReset s.cfg.hle = 0x10600000#32 := by rw [h]; decide
  rw [resetBlock, hsr]
  rfl

end State

/-! ### Calls that are listed and calls that are not -/

/-- The list of calls of `t` is that of `s`, continued by calls that satisfy `p`. -/
def CallsAfter (p : Event → Bool) (s t : State) : Prop :=
  ∃ es, t.out.events = s.out.events ++ es ∧ ∀ e ∈ es, p e = true

namespace CallsAfter

variable {p q : Event → Bool} {s t u : State}

theorem trans (h : CallsAfter p s t) (k : CallsAfter p t u) : CallsAfter p s u := by
  obtain ⟨es, hevents, hkind⟩ := h
  obtain ⟨fs, kevents, kkind⟩ := k
  exact ⟨es ++ fs, by rw [kevents, hevents, List.append_assoc],
    List.forall_mem_append.mpr ⟨hkind, kkind⟩⟩

theorem mono (hpq : ∀ e, p e = true → q e = true) (h : CallsAfter p s t) : CallsAfter q s t := by
  obtain ⟨es, hevents, hkind⟩ := h
  exact ⟨es, hevents, fun e he => hpq e (hkind e he)⟩

theorem isPrefix (h : CallsAfter p s t) : s.out.events <+: t.out.events := by
  obtain ⟨es, hevents, -⟩ := h
  exact ⟨es, hevents.symm⟩

/-- Events of another kind are as many as before. -/
theorem count_eq (h : CallsAfter p s t) {e : Event} (he : p e = false) :
    t.out.events.count e = s.out.events.count e := by
  obtain ⟨es, hevents, hkind⟩ := h
  have hnone : es.count e = 0 :=
    List.count_eq_zero.mpr fun hmem => by simp [hkind e hmem] at he
  rw [hevents, List.count_append, hnone, Nat.add_zero]

/-- A collaborator that makes no call leaves the list. -/
theorem events_eq (h : CallsAfter (fun _ => false) s t) : t.out.events = s.out.events := by
  obtain ⟨es, hevents, hkind⟩ := h
  obtain rfl : es = [] := List.eq_nil_iff_forall_not_mem.mpr fun e he => Bool.noConfusion (hkind e he)
  rw [hevents, List.append_nil]

end CallsAfter

/-! ### What the Boot Sequencer carries along (R197) -/

/-- The calls BOOT_RUN makes: its blocks, the calls of each, and the diagnostic. -/
def Event.ofBoot : Event → Bool
  | .executeBlock _ | .nonStandardFirmware _ _ => true
  | e => e.ofBackend

theorem Event.ofBoot_of_ofBackend {e : Event} (h : e.ofBackend = true) : e.ofBoot = true := by
  cases e with
  | executeBlock _ | nonStandardFirmware _ _ => rfl
  | _ => exact h

/-- What is carried from `s` to `t` when the boot record is written too, and the calls satisfy `p`. -/
structure BootCarries (p : Event → Bool) (s t : State) : Prop where
  tables : t.tables = s.tables
  inputs : t.inputs = s.inputs
  memEpoch : t.memEpoch = s.memEpoch
  cfg : ∃ v, t.cfg = { s.cfg with timingFix := v }
  host : ∃ b n ph, t.host = { s.host with bootState := b, bootCount := n, phase := ph }
  events : CallsAfter p s t

/-- Commands that carry the rest of the machine along leave the boot record. -/
theorem Carries.boot {p : Event → Bool} {s t : State} (h : Carries p s t) : BootCarries p s t where
  tables := h.tables
  inputs := h.inputs
  memEpoch := h.memEpoch
  cfg := h.cfg
  host := h.host.imp' (fun _ => s.host.bootState) fun _ hhost => ⟨_, _, hhost⟩
  events := h.events

namespace BootCarries

variable {p q : Event → Bool} {s t u : State}

theorem refl (s : State) : BootCarries p s s := (Carries.refl s).boot

theorem trans (h : BootCarries p s t) (k : BootCarries p t u) : BootCarries p s u where
  tables := k.tables.trans h.tables
  inputs := k.inputs.trans h.inputs
  memEpoch := k.memEpoch.trans h.memEpoch
  cfg := by
    obtain ⟨_, hcfg⟩ := h.cfg
    obtain ⟨v, kcfg⟩ := k.cfg
    exact ⟨v, by rw [kcfg, hcfg]⟩
  host := by
    obtain ⟨_, _, _, hhost⟩ := h.host
    obtain ⟨b, n, ph, khost⟩ := k.host
    exact ⟨b, n, ph, by rw [khost, hhost]⟩
  events := h.events.trans k.events

theorem mono (hpq : ∀ e, p e = true → q e = true) (h : BootCarries p s t) : BootCarries q s t where
  tables := h.tables
  inputs := h.inputs
  memEpoch := h.memEpoch
  cfg := h.cfg
  host := h.host
  events := h.events.mono hpq

theorem setBootRecord (s : State) (b : BootState) (n : Nat) :
    BootCarries p s (s.setHost { s.host with bootState := b, bootCount := n }) :=
  { refl s with host := ⟨b, n, _, rfl⟩ }

theorem bootBlock (s : State) : BootCarries Event.ofBoot s s.bootBlock :=
  ((Carries.emit (e := .executeBlock .boot) rfl s).boot.trans
    ((executeBlock_carries s .boot).boot.mono fun _ => Event.ofBoot_of_ofBackend)).trans
    (setBootRecord _ _ _)

theorem bootDiagnostic (s : State) : BootCarries Event.ofBoot s s.bootDiagnostic := by
  unfold State.bootDiagnostic
  split
  · exact (Carries.emit rfl s).boot
  · exact refl s

theorem bootRun (s : State) : BootCarries Event.ofBoot s s.bootRun := by
  have hloop : BootCarries Event.ofBoot s (State.bootLoop Config.bootCap s.bootStart) :=
    State.bootLoop_keeps (P := BootCarries Event.ofBoot s) (fun t h => h.trans (bootBlock t))
      (fun t _ h => h.trans (setBootRecord t _ _)) Config.bootCap (setBootRecord s _ _)
  exact hloop.trans (bootDiagnostic _)

end BootCarries

namespace State

/-! ### The SR bits that the installer leaves (`92_eei_decisions.md` D38) -/

theorem keepBootBits_getLsbD (old new : Word) {k : Nat} (hk : srBootMask.getLsbD k = true) :
    (keepBootBits old new).getLsbD k = old.getLsbD k := by
  simp [keepBootBits, hk]

variable (s : State)

theorem setupAct_sr (a : Act) : (s.setupAct a).sr = keepBootBits s.sr (s.handlerAct a).sr :=
  ((s.handlerAct a).readCp0_writeCp0 _ _ _).trans (if_pos rfl)

theorem setupActs_sr_getLsbD {k : Nat} (hk : srBootMask.getLsbD k = true) (acts : List Act) :
    (s.setupActs acts).sr.getLsbD k = s.sr.getLsbD k :=
  foldl_keeps (P := fun t => t.sr.getLsbD k = s.sr.getLsbD k)
    (fun t a h => by rw [setupAct_sr, keepBootBits_getLsbD _ _ hk, h]) acts s rfl

theorem setupHleBootState_sr_getLsbD {k : Nat} (hk : srBootMask.getLsbD k = true) :
    s.setupHleBootState.sr.getLsbD k = s.sr.getLsbD k := by
  rw [setupHleBootState, setupActs_sr_getLsbD _ hk, draw_sr, emit_sr]

/-- The installer's own call, then the calls of its commands. -/
theorem setupHleBootState_carries :
    Carries Event.ofBlock (s.emit .setupHleBootState) s.setupHleBootState :=
  (Carries.draw _).trans (Carries.foldl Carries.setupAct _ _)

theorem setupHleBootState_isPrefix :
    s.out.events ++ [.setupHleBootState] <+: s.setupHleBootState.out.events :=
  CallsAfter.isPrefix s.setupHleBootState_carries.events

/-- The installer makes its own call once, and beside it only those of block commands. -/
theorem count_setupHleBootState {e : Event} (he : e.ofBlock = false) :
    s.setupHleBootState.out.events.count e =
      s.out.events.count e + [Event.setupHleBootState].count e :=
  (CallsAfter.count_eq s.setupHleBootState_carries.events he).trans List.count_append

/-! ### The bypass (R262) -/

/-- The bypass answers the flag of the answer drawn. -/
theorem tryIntroBypass_flag : s.tryIntroBypass.1 = s.draw.1.flag := by
  obtain ⟨hanswer, -⟩ := draw_congr (s := s.emit .tryIntroBypass) (t := s) rfl rfl
  exact congrArg Answer.flag hanswer

theorem tryIntroBypass_carries {p : Event → Bool} :
    Carries p (s.emit .tryIntroBypass) s.tryIntroBypass.2 :=
  (Carries.draw _).trans (Carries.foldl Carries.outsideAct _ _)

theorem tryIntroBypass_events :
    s.tryIntroBypass.2.out.events = s.out.events ++ [.tryIntroBypass] :=
  CallsAfter.events_eq s.tryIntroBypass_carries.events

theorem draw_sameBlock : s.SameBlock s.draw.2 :=
  ⟨s.draw_x, s.draw_pc, s.draw_hi, s.draw_lo, s.draw_cycle, s.draw_cp0, s.draw_gte⟩

/-- The bypass writes no register (log 16). -/
theorem tryIntroBypass_sameBlock : s.SameBlock s.tryIntroBypass.2 :=
  (draw_sameBlock (s.emit .tryIntroBypass)).trans (outsideActs_sameBlock _ _)

/-- The timing-fix value is no register. -/
theorem SameBlock.setTimingFix (v : Nat) : s.SameBlock (s.setTimingFix v) := SameBlock.refl s

theorem SameBlock.sr {s t : State} (h : s.SameBlock t) : t.sr = s.sr := by
  obtain ⟨-, -, -, -, -, hcp0, -⟩ := h
  simp only [State.sr, readCp0, hcp0]

/-! ### HOST_RESET after its first five calls (R262, R263) -/

/-- The first five calls of HOST_RESET. -/
def resetCalls : List Event := [.memReset, .backendApplyConfig, .backendReset, .hwReset, .firmwareInit]

/-- The state after HOST_RESET's first five calls, with the timing-fix value saved. -/
def resetStart : State := s.accept.resetSequence.saveTimingFix

theorem resetSequence_events : s.resetSequence.out.events = s.out.events ++ resetCalls := by
  have hevents := CallsAfter.events_eq s.resetSequence_carries.events
  simpa [resetCalls] using hevents

theorem resetSequence_host : s.resetSequence.host = { s.host with phase := .live } := by
  obtain ⟨ph, hhost⟩ := s.resetSequence_carries.host
  have hlive : s.resetSequence.host.phase = .live := s.resetSequence_live
  rw [hhost] at hlive ⊢
  obtain rfl : ph = .live := hlive
  simp

theorem resetStart_events : s.resetStart.out.events = resetCalls := s.accept.resetSequence_events

theorem resetStart_host :
    s.resetStart.host = { s.host with savedTimingFix := s.cfg.timingFix, phase := .live } := by
  simp [resetStart, saveTimingFix, resetSequence_host]

theorem resetStart_cfg : s.resetStart.cfg = s.cfg := s.accept.resetSequence_cfg

theorem resetStart_tables : s.resetStart.tables = s.tables := by
  simpa [resetStart, saveTimingFix] using s.accept.resetSequence_carries.tables

theorem resetStart_inputs : s.resetStart.inputs = s.inputs := by
  simpa [resetStart, saveTimingFix] using s.accept.resetSequence_carries.inputs

theorem resetStart_memEpoch : s.resetStart.memEpoch = s.memEpoch + 1 := by
  simpa [resetStart, saveTimingFix] using s.accept.resetSequence_carries.memEpoch

/-- The registers are those that RESET_STATE leaves. -/
theorem resetStart_sameBlock : s.accept.resetBlock.SameBlock s.resetStart :=
  s.accept.resetSequence_sameBlock

theorem resetStart_sr : s.resetStart.sr = srAfterReset s.cfg.hle :=
  s.resetStart_sameBlock.sr.trans s.accept.resetBlock_sr

/-- The five calls come first in every list of calls that HOST_RESET goes on to. -/
theorem resetCalls_isPrefix {p : Event → Bool} {s t : State} (h : BootCarries p s.resetStart t) :
    resetCalls <+: t.out.events :=
  s.resetStart_events ▸ h.events.isPrefix

/-- The RESET_STATE of a live block leaves the registers that HOST_RESET's first calls leave. -/
theorem exec_resetState_sameBlock_resetStart :
    ∃ r, exec .resetState (s.setHost { s.host with phase := .live }) = .next r ∧
      r.SameBlock s.resetStart :=
  ⟨_, exec_resetState (.inl rfl), s.resetStart_sameBlock⟩

/-! ### The paths of HOST_RESET -/

theorem bootOrBypass_carries : BootCarries (fun _ => true) s s.bootOrBypass.2 := by
  have hboot : BootCarries (fun _ => true) s s.bootRun := (BootCarries.bootRun s).mono fun _ _ => rfl
  unfold bootOrBypass
  split
  · exact .refl s
  · split
    · exact hboot.trans ((Carries.emit rfl _).trans (tryIntroBypass_carries _)).boot
    · exact hboot

theorem installBootState_carries (bypassed : Bool) :
    BootCarries (fun _ => true) s (s.installBootState bypassed) := by
  unfold installBootState
  split
  · exact ((Carries.emit rfl s).trans (s.setupHleBootState_carries.mono fun _ _ => rfl)).boot
  · exact .refl s

/-- What HOST_RESET leaves before the timing-fix value is restored. -/
def resetEnd : State := s.resetStart.bootOrBypass.2.installBootState s.resetStart.bootOrBypass.1

theorem resetEnd_carries : BootCarries (fun _ => true) s.resetStart s.resetEnd :=
  s.resetStart.bootOrBypass_carries.trans (installBootState_carries _ _)

/-- The timing-fix value restored is the one the command found (R262). -/
theorem hostReset_eq : s.accept.hostReset = s.resetEnd.setTimingFix s.cfg.timingFix := by
  obtain ⟨_, _, _, hhost⟩ := s.resetEnd_carries.host
  have hsaved : s.resetEnd.host.savedTimingFix = s.cfg.timingFix := by rw [hhost, resetStart_host]
  exact congrArg s.resetEnd.setTimingFix hsaved

theorem hostReset_carries : BootCarries (fun _ => true) s.resetStart s.accept.hostReset := by
  rw [hostReset_eq]
  exact s.resetEnd_carries.trans (Carries.setTimingFix _ _).boot

theorem hostReset_cfg : s.accept.hostReset.cfg = s.cfg := by
  obtain ⟨v, hcfg⟩ := s.resetEnd_carries.cfg
  rw [hostReset_eq, setTimingFix_cfg, hcfg, resetStart_cfg]

theorem resetEnd_of_bootOrBypass {s : State} {boot : Bool × State} (h : s.resetStart.bootOrBypass = boot) :
    s.resetEnd = boot.2.installBootState boot.1 := by rw [resetEnd, h]

/-- With HLE on the installer runs on the state after the five calls. -/
theorem hostReset_of_hle (h : s.cfg.hle = true) :
    s.accept.hostReset = s.resetStart.setupHleBootState.setTimingFix s.cfg.timingFix := by
  have hhle : s.resetStart.cfg.hle = true := s.resetStart_cfg ▸ h
  rw [hostReset_eq, resetEnd, bootOrBypass, if_pos hhle, installBootState, hhle, Bool.true_or,
    if_pos rfl]

section Booted

variable {s}

/-- The boot writes no configuration input but the timing-fix value. -/
theorem resetStart_bootRun_cfg : ∃ v, s.resetStart.bootRun.cfg = { s.cfg with timingFix := v } := by
  obtain ⟨v, hcfg⟩ := (BootCarries.bootRun s.resetStart).cfg
  exact ⟨v, by rw [hcfg, resetStart_cfg]⟩

theorem bootOrBypass_resetStart (hhle : s.cfg.hle = false) :
    s.resetStart.bootOrBypass =
      if s.resetStart.bootRun.pc = Config.kernelEntry ∧ s.cfg.introPolicy = true then
        s.resetStart.bootRun.tryIntroBypass
      else (false, s.resetStart.bootRun) := by
  obtain ⟨v, hcfg⟩ := s.resetStart_bootRun_cfg
  simp [bootOrBypass, resetStart_cfg, hhle, hcfg]

/-- With HLE off the installer runs iff the bypass applied. -/
theorem installBootState_of_no_hle {u : State} (h : u.cfg.hle = false) (bypassed : Bool) :
    u.installBootState bypassed = if bypassed then u.setupHleBootState else u := by
  rw [installBootState, h, Bool.false_or]

/-- A boot that ends elsewhere, or without the bypass policy, is the end of the sequence. -/
theorem hostReset_of_boot (hhle : s.cfg.hle = false)
    (hend : s.resetStart.bootRun.pc ≠ Config.kernelEntry ∨ s.cfg.introPolicy = false) :
    s.accept.hostReset = s.resetStart.bootRun.setTimingFix s.cfg.timingFix := by
  obtain ⟨v, hcfg⟩ := s.resetStart_bootRun_cfg
  have hbooted : s.resetStart.bootRun.cfg.hle = false := by rw [hcfg]; exact hhle
  have hno : ¬(s.resetStart.bootRun.pc = Config.kernelEntry ∧ s.cfg.introPolicy = true) := by
    rintro ⟨hpc, hpolicy⟩
    rcases hend with hend | hend
    · exact hend hpc
    · cases hend.symm.trans hpolicy
  rw [hostReset_eq, resetEnd_of_bootOrBypass ((bootOrBypass_resetStart hhle).trans (if_neg hno)),
    installBootState_of_no_hle hbooted, if_neg Bool.false_ne_true]

/-- A boot that ends at the kernel entry under the policy is followed by the bypass, and by the installer
if it applied. -/
theorem hostReset_of_bypass (hhle : s.cfg.hle = false)
    (hpc : s.resetStart.bootRun.pc = Config.kernelEntry) (hpolicy : s.cfg.introPolicy = true) :
    s.accept.hostReset =
      (if s.resetStart.bootRun.draw.1.flag then
        s.resetStart.bootRun.tryIntroBypass.2.setupHleBootState
      else s.resetStart.bootRun.tryIntroBypass.2).setTimingFix s.cfg.timingFix := by
  obtain ⟨v, hcfg⟩ := s.resetStart_bootRun_cfg
  have hbypassed : s.resetStart.bootRun.tryIntroBypass.2.cfg.hle = false := by
    rw [tryIntroBypass, outsideActs_cfg, draw_cfg, emit_cfg, hcfg]
    exact hhle
  rw [hostReset_eq,
    resetEnd_of_bootOrBypass ((bootOrBypass_resetStart hhle).trans (if_pos ⟨hpc, hpolicy⟩)),
    installBootState_of_no_hle hbypassed, tryIntroBypass_flag]

/-- A call that is neither one of the five nor a boot's is not made before the boot has ended. -/
theorem count_resetStart_bootRun {e : Event} (hcalls : e ∉ resetCalls) (hboot : e.ofBoot = false) :
    s.resetStart.bootRun.out.events.count e = 0 := by
  rw [(BootCarries.bootRun s.resetStart).events.count_eq hboot, resetStart_events]
  exact List.count_eq_zero.mpr hcalls

end Booted

end State

end Sys2Proof.Machine

namespace Sys2Proof.Proofs

open Sys2Proof.Machine

/-- Settles O38, by the reset value of each cell and the bits of SR's. -/
theorem resetValuesWithAndWithoutHle : Obligations.ResetValuesWithAndWithoutHle := by
  intro s hphase
  have hcell := s.accept.resetBlock_readCp0
  have hsr : s.accept.resetBlock.sr = srAfterReset s.cfg.hle := s.accept.resetBlock_sr
  refine ⟨_, exec_resetState hphase, s.accept.resetBlock_readGpr, rfl, rfl, rfl, rfl, hcell _, hcell _,
    hcell _, rfl, fun k hk => ?sr, fun k hne hne' => ?cells, rfl, rfl, ?stack⟩
  case sr => rw [hsr, srAfterReset_getLsbD_iff _ k hk]
  case cells => rw [hcell, if_neg hne'.symm, if_neg hne.symm]
  case stack => rw [hsr, srAfterReset_extractLsb'_stack]

/-- Settles O40: every path of HOST_RESET carries what the first five calls left, but for the timing-fix
value, and that is restored. -/
theorem hostResetKeepsTheConfiguration : Obligations.HostResetKeepsTheConfiguration := by
  intro s hphase
  obtain ⟨htables, hinputs, hepoch, -, ⟨b, n, ph, hhost⟩, -⟩ := s.hostReset_carries
  rw [State.resetStart_host] at hhost
  refine ⟨_, exec_hostReset hphase, State.resetCalls_isPrefix s.hostReset_carries, s.hostReset_cfg, ?saved,
    s.accept.hostReset_live, ?backend, ?once, htables.trans s.resetStart_tables,
    hinputs.trans s.resetStart_inputs, hepoch.trans s.resetStart_memEpoch⟩
  all_goals rw [hhost]

/-- Settles O41: the installer is the one call after the first five, its commands call no other, and it
leaves the two SR bits that RESET_STATE fixed. -/
theorem hostResetUnderHleInstallsTheBootState : Obligations.HostResetUnderHleInstallsTheBootState := by
  intro s hphase hhle
  obtain ⟨r, hreset, hsame⟩ := s.exec_resetState_sameBlock_resetStart
  obtain ⟨ph, hhost⟩ := s.resetStart.setupHleBootState_carries.host
  have hprefix := s.resetStart.setupHleBootState_isPrefix
  have hcount {e : Event} (he : e.ofBlock = false) := s.resetStart.count_setupHleBootState he
  have hbit {k : Nat} (hk : srBootMask.getLsbD k = true) :
      s.resetStart.setupHleBootState.sr.getLsbD k = (srAfterReset true).getLsbD k := by
    rw [State.setupHleBootState_sr_getLsbD _ hk, State.resetStart_sr, hhle]
  rw [State.emit_host, State.resetStart_host] at hhost
  simp only [State.resetStart_events] at hprefix hcount
  refine ⟨_, r, exec_hostReset hphase, hreset, hsame, s.hostReset_of_hle hhle, ?_⟩
  rw [s.hostReset_of_hle hhle]
  simp only [State.setTimingFix_out, State.setTimingFix_host, State.setTimingFix_sr, hhost]
  refine ⟨hprefix, hcount rfl, fun reason => List.count_eq_zero.mp ?noBoot, trivial, trivial, ?cu2, ?bev⟩
  case noBoot => rw [hcount rfl]; cases reason <;> rfl
  case cu2 => rw [hbit (by decide)]; decide
  case bev => rw [hbit (by decide)]; decide

/-- Settles O42, path by path: the boot alone, the bypass that does not apply, and the bypass followed by
the installer. -/
theorem hostResetWithoutHleBootsTheFirmware : Obligations.HostResetWithoutHleBootsTheFirmware := by
  intro s hphase hhle
  obtain ⟨r, hreset, hsame⟩ := s.exec_resetState_sameBlock_resetStart
  have hbypass : s.resetStart.bootRun.out.events.count .tryIntroBypass = 0 :=
    State.count_resetStart_bootRun (by decide) rfl
  have hsetup : s.resetStart.bootRun.out.events.count .setupHleBootState = 0 :=
    State.count_resetStart_bootRun (by decide) rfl
  refine ⟨_, s.resetStart.bootRun, r, exec_hostReset hphase, rfl, hreset, hsame,
    State.resetCalls_isPrefix (BootCarries.bootRun s.resetStart), fun hend => ?boot, fun hpc hpolicy => ?_⟩
  case boot =>
    rw [State.hostReset_of_boot hhle hend]
    exact ⟨rfl, List.count_eq_zero.mp hbypass, List.count_eq_zero.mp hsetup⟩
  have hasked := s.resetStart.bootRun.tryIntroBypass_events
  have hkept {k : Nat} (hk : srBootMask.getLsbD k = true) :
      s.resetStart.bootRun.tryIntroBypass.2.setupHleBootState.sr.getLsbD k =
        s.resetStart.bootRun.sr.getLsbD k := by
    rw [State.setupHleBootState_sr_getLsbD _ hk, State.tryIntroBypass_sameBlock _ |>.sr]
  rw [State.hostReset_of_bypass hhle hpc hpolicy]
  cases hflag : s.resetStart.bootRun.draw.1.flag with
  | false =>
    rw [if_neg Bool.false_ne_true, State.setTimingFix_out, hasked]
    refine ⟨?asked, fun _ => ⟨?registers, rfl, ?notInstalled⟩, nofun⟩
    case asked => rw [List.count_append, hbypass]; rfl
    case notInstalled => exact List.count_eq_zero.mp (by rw [List.count_append, hsetup]; rfl)
    case registers =>
      exact s.resetStart.bootRun.tryIntroBypass_sameBlock.trans (State.SameBlock.setTimingFix _ _)
  | true =>
    rw [if_pos rfl, State.setTimingFix_out, State.setTimingFix_sr]
    refine ⟨?askedOnce, nofun, fun _ => ⟨?installedOnce, ?order, ?cu2, ?bev⟩⟩
    case askedOnce =>
      rw [State.count_setupHleBootState _ rfl, hasked, List.count_append, hbypass]; rfl
    case installedOnce =>
      rw [State.count_setupHleBootState _ rfl, hasked, List.count_append, hsetup]; rfl
    case order =>
      have hprefix := s.resetStart.bootRun.tryIntroBypass.2.setupHleBootState_isPrefix
      rwa [hasked, List.append_assoc] at hprefix
    case cu2 => exact hkept (by decide)
    case bev => exact hkept (by decide)

/-- Settles O37, by what RESET_STATE writes. -/
theorem resetStateResetsTheBlock : Obligations.ResetStateResetsTheBlock :=
  fun _ hphase => exec_resetState hphase

/-- Settles O39: with HLE off RESET_STATE writes the block's registers as `State.reset` has them. -/
theorem resetIsTheStateResetStateLeaves : Obligations.ResetIsTheStateResetStateLeaves :=
  fun s hphase hhle =>
    (exec_resetState hphase).trans (congrArg _ (State.resetBlock_eq_reset (s := s.accept) hhle))

/-- Settles O46: the gate of a block command refuses, those of RESET_STATE and HOST_RESET let through. -/
theorem commandsBeforeTheFirstResetAreRefused : Obligations.CommandsBeforeTheFirstResetAreRefused := by
  intro s hphase
  have hnot : s.host.phase ≠ .shutDown := by simp [hphase]
  exact ⟨fun _ => exec_refused_of_unreset hphase, ⟨_, exec_resetState (.inr hphase), rfl⟩,
    ⟨_, exec_hostReset hnot, State.hostReset_live _⟩⟩

/-- Settles O56: no byte is listed, the boot record has not started and no backend is active. -/
theorem resetMeetsTheInvariant : Obligations.ResetMeetsTheInvariant := by
  have hbackend : State.reset.backendWf := ⟨nofun, nofun⟩
  exact ⟨rfl, rfl, rfl, hbackend, rfl⟩

end Sys2Proof.Proofs
